-- ==== Sys2Proof/Word.lean ====
section
/-!
DEFINITION. The word types of the block (00_scope.md section 6: all values are unsigned).
-/

namespace Sys2Proof

/-- A data byte, `u8`. -/
abbrev Byte := BitVec 8

/-- A 16-bit word, `u16`: the CRC, the header, a word of the transceiver exchange. -/
abbrev Word16 := BitVec 16

/-- A node id, a destination or a sender (5 bits, R46, R50). -/
abbrev NodeId := BitVec 5

/-- A payload length as the header carries it (6 bits, R46). -/
abbrev PayloadLen := BitVec 6

/-- A buffer cursor (7 bits, R14, R21). -/
abbrev Cursor := BitVec 7

/-- A value of the `frequencyBand` enumeration (R9), by number: its members are not in the source, and an enumeration of `n`
members (`Params.bandCount`, R6, U11) is the numbers below `n` (DESIGN CHOICE, log 8). The block never inspects it. -/
abbrev Band := Nat

end Sys2Proof
end

