-- ==== Sys2Proof/Config.lean ====
section
/-!
DEFINITION. What is fixed for the block: the constants of R5, the parameters of R6, and the free values (opaque
constants without a body, of which nothing can be proved).
-/

namespace Sys2Proof

/-! ## Constants the source fixes (R5) -/

/-- `MAX_PAYLOAD`. -/
def Config.maxPayload : Nat := 63
/-- `PREAMBLE`; three of them open a frame. -/
def Config.preamble : Byte := 0xAA
/-- `SYNC`. -/
def Config.sync : Byte := 0x2D
/-- `PAD`; three of them close a frame, and one more flushes the transmitter (R77). -/
def Config.pad : Byte := 0xAA
/-- `CRC_POLY`, reflected. -/
def Config.crcPoly : Word16 := 0xA001
/-- `CRC_SEED`. -/
def Config.crcSeed : Word16 := 0xFFFF
/-- `BROADCAST`, the destination every node accepts. -/
def Config.broadcast : NodeId := 0
/-- The longest payload the host port takes (R50). -/
def Config.maxHostPayload : Nat := 255

/-! ## Parameters (R6) -/

/-- The parameters the rules depend on. They are data of the state that no step writes (log 9). -/
structure Params where
  /-- `MAX_PACKET`, the capacity of `rxBuf`. -/
  maxPacket : Nat
  /-- `MAX_SIGNAL`, the capacity of `txBuf`. -/
  maxSignal : Nat
  /-- `SPIN_TIMEOUT_ENABLE`: whether the wait of `WRITE_FRAME` may give up (R83). -/
  spinTimeoutEnable : Bool
  /-- How many members the `frequencyBand` enumeration has (its members are OPEN, D16, U11; log 8). -/
  bandCount : Nat
  deriving DecidableEq, Repr

/-- How many members the `frequencyBand` enumeration has besides one: R6 leaves it open and asks only that it be finite
and not empty (log 8). No body: no proof can see it. -/
opaque Config.otherBands : Nat

/-- The values R6 decides, and the open number of bands. -/
def Params.decided : Params :=
  { maxPacket := 67, maxSignal := 75, spinTimeoutEnable := false, bandCount := Config.otherBands + 1 }

/-- The constraints of R6. Outside them (93_implementation_defined.md U7) the spec makes no statement. -/
abbrev Params.Valid (p : Params) : Prop :=
  4 ≤ p.maxPacket ∧ p.maxPacket ≤ 127 ∧ 12 ≤ p.maxSignal ∧ p.maxSignal ≤ 127 ∧ 1 ≤ p.bandCount

/-- The open numerals of the 16-bit primitive, and the open call sequences behind `FIFO_DRAIN` and `CONFIG` (R6, R37, D5,
U11). No step needs them: they are an argument of the functions that map logical requests to the primitive. -/
structure Numerals where
  tcmdIdle : Word16
  tcmdSleep : Word16
  tcmdRxOn : Word16
  tcmdTxOn : Word16
  tcmdFifoRead : Word16
  tcmdFifoWrite : Word16
  tcmdStatusRead : Word16
  carrierMask : Word16
  /-- The calls behind `FIFO_DRAIN`. -/
  fifoDrainCalls : List Word16
  /-- The calls behind `CONFIG`, which carries `band` and `groupId` (R34). -/
  configCalls : Band → Byte → List Word16

/-- The seven command numerals. -/
def Numerals.commands (n : Numerals) : List Word16 :=
  [n.tcmdIdle, n.tcmdSleep, n.tcmdRxOn, n.tcmdTxOn, n.tcmdFifoRead, n.tcmdFifoWrite, n.tcmdStatusRead]

/-- The constraints R6 and R37 put on the numerals: the commands pairwise distinct, the write command's low byte
zero, exactly one bit of the mask set, and each sequence of one or more calls. -/
abbrev Numerals.Valid (n : Numerals) : Prop :=
  n.commands.Nodup ∧ n.tcmdFifoWrite.extractLsb' 0 8 = 0 ∧ (∃ k : Fin 16, n.carrierMask = 1#16 <<< k.val) ∧
  n.fifoDrainCalls ≠ [] ∧ ∀ band groupId, n.configCalls band groupId ≠ []

/-! ## Free values (no body: nothing in Lean can evaluate them) -/

/-- The reply of the `k`-th `FIFO_READ` for which the state lists no reply (R35: any byte; log 5). -/
opaque Config.freeFifoByte : Nat → Byte

/-- The reply of the `k`-th `STATUS_READ` for which the state lists no reply (R35: any Boolean; log 5). -/
opaque Config.freeCarrier : Nat → Bool

/-- What a cell of `rxBuf` that nothing has written reads as (93_implementation_defined.md U9: any value; log 7). -/
opaque Config.unwrittenRx : Nat → Byte

/-- What a cell of `txBuf` that nothing has written reads as (U9: any value; log 7). -/
opaque Config.unwrittenTx : Nat → Byte

/-- The band that a `CONFIG` presented by itself carries when no `CONSTRUCT` has given the identity registers a value (R26:
they hold none; log 6). -/
opaque Config.unsetBand : Band

/-- The group that such a `CONFIG` carries (R26; log 6). -/
opaque Config.unsetGroupId : Byte

end Sys2Proof
end

