-- ==== Sys2Proof/Machine/Codec.lean ====
section
/-!
DEFINITION. The packet codec (40_codec.md): CRC-16, header pack and unpack, frame builder, validator. Pure functions: they
touch no state and issue no request.
-/

namespace Sys2Proof.Machine

/-! ## CRC-16 generator and checker -/

/-- One of the eight shift steps of R56: the polynomial is XORed in when the bit shifted out was 1.
PRESUMED (the spec marks this inner step as general knowledge, G1; log 16). -/
def crcShift (c : Word16) : Word16 :=
  if c.getLsbD 0 then (c >>> 1) ^^^ Config.crcPoly else c >>> 1

/-- `k` shift steps. -/
def crcShifts : Nat → Word16 → Word16
  | 0, c => c
  | k + 1, c => crcShifts k (crcShift c)

/-- `crc16_update(c, b)` (R56). -/
def crc16Update (c : Word16) (b : Byte) : Word16 :=
  crcShifts 8 (c ^^^ b.setWidth 16)

/-- The accumulator after a byte sequence, from a given start. -/
def crc16From (c : Word16) (bytes : List Byte) : Word16 :=
  bytes.foldl crc16Update c

/-- `crc16(b_0, ..., b_{k-1})` (R57): seed `0xFFFF`, no final XOR. -/
def crc16 (bytes : List Byte) : Word16 :=
  crc16From Config.crcSeed bytes

/-- The high byte of a 16-bit quantity, first on the wire and in both buffers (R31). -/
def hiByte (w : Word16) : Byte := w.extractLsb' 8 8

/-- The low byte of a 16-bit quantity. -/
def loByte (w : Word16) : Byte := w.extractLsb' 0 8

/-- The 16-bit quantity whose high byte comes first (R31). -/
def bigEndian (hi lo : Byte) : Word16 := hi ++ lo

/-! ## Header -/

/-- The 16-bit header of R46. -/
def headerWord (destination sender : NodeId) (length : PayloadLen) : Word16 :=
  (destination.setWidth 16 <<< 11) ||| (sender.setWidth 16 <<< 6) ||| length.setWidth 16

/-- `packHeader(destination, sender, length)` (R59). -/
def packHeader (destination sender : NodeId) (length : PayloadLen) : Byte × Byte :=
  (hiByte (headerWord destination sender length), loByte (headerWord destination sender length))

/-- What `decodeHeader` answers. -/
structure Header where
  destination : NodeId
  sender : NodeId
  length : PayloadLen
  deriving DecidableEq, Repr

/-- The length field of header byte 1 (R15, R68: `b & 0x3F`). -/
def lengthField (b : Byte) : PayloadLen := b.extractLsb' 0 6

/-- `decodeHeader(byte0, byte1)` (R60). -/
def decodeHeader (b0 b1 : Byte) : Header where
  destination := b0.extractLsb' 3 5
  sender := (b0.extractLsb' 0 3 ++ b1.extractLsb' 6 2 : BitVec 5)
  length := lengthField b1

/-! ## Frame builder -/

/-- The truncation policy (R62): only the first 63 bytes of a payload are used. -/
def keptPayload (payload : List Byte) : List Byte :=
  payload.take Config.maxPayload

/-- The sender field of a frame: 0 when the send is anonymous (R46, R61). -/
def senderField : Option NodeId → NodeId
  | none => 0
  | some sender => sender

/-- The header and payload bytes of a frame, which the CRC covers (R48). -/
def coveredBytes (destination sender : NodeId) (payload : List Byte) : List Byte :=
  (packHeader destination sender (BitVec.ofNat 6 payload.length)).1 ::
    (packHeader destination sender (BitVec.ofNat 6 payload.length)).2 :: payload

/-- The bytes of a frame that the receive sequencer stores: header, payload, CRC (R44, R47). -/
def storedBytes (destination sender : NodeId) (payload : List Byte) (crc : Word16) : List Byte :=
  coveredBytes destination sender payload ++ [hiByte crc, loByte crc]

/-- The wire bytes of a frame with a given CRC field (R45). -/
def wireBytes (groupId : Byte) (destination sender : NodeId) (payload : List Byte) (crc : Word16) : List Byte :=
  [Config.preamble, Config.preamble, Config.preamble, Config.sync, groupId] ++
    storedBytes destination sender payload crc ++ [Config.pad, Config.pad, Config.pad]

/-- The uncapped frame that `encodeFrame` builds (`full` in R61). -/
def fullFrame (groupId : Byte) (destination : NodeId) (sender : Option NodeId) (payload : List Byte) : List Byte :=
  wireBytes groupId destination (senderField sender) (keptPayload payload)
    (crc16 (coveredBytes destination (senderField sender) (keptPayload payload)))

/-- `encodeFrame(groupId, destination, senderOrAnonymous, payload)` (R61): the bytes, capped at `MAX_SIGNAL`. The
length that R61 returns beside them is the list's. -/
def encodeFrame (maxSignal : Nat) (groupId : Byte) (destination : NodeId) (sender : Option NodeId)
    (payload : List Byte) : List Byte :=
  (fullFrame groupId destination sender payload).take (min (12 + (keptPayload payload).length) maxSignal)

/-! ## Validator -/

/-- `validate(rxCrc, t_hi, t_lo)` (R63): zero residual, not the AND-NOT variant (U8). -/
def validate (rxCrc : Word16) (tHi tLo : Byte) : Bool :=
  rxCrc ^^^ bigEndian tHi tLo == 0

end Sys2Proof.Machine
end

