-- ==== Sys2Proof/Syntax.lean ====
section
/-!
DEFINITION. The rows of spec/opcode_table.json, one constructor each, the ports on which their words stand, and the
reasons a word is rejected.
-/

namespace Sys2Proof

/-- Where a word stands. The table's formats HOST, IRQ, TREQ, HEADER and FRAME are encodings of five different
things, so their codes overlap and the port tells them apart (30_encoding.md R45, R46, R49, R51). -/
inductive Port where
  /-- The host port: `h_op[2:0]` and operands (R49, R50). -/
  | host
  /-- The byte-ready line (R51, R88). -/
  | irq
  /-- The transceiver request port: `t_req[3:0]`, `t_wdata[7:0]` (R51). -/
  | treq
  /-- The two header bytes of a frame (R46). -/
  | header
  /-- A whole wire frame (R45). -/
  | frame
  deriving DecidableEq, Repr

/-- One constructor per row of spec/opcode_table.json. -/
inductive Instr where
  /-- `CONSTRUCT(band, groupId, nodeId)` (R80). -/
  | construct (band : Band) (groupId : Byte) (nodeId : NodeId)
  /-- `BEGIN` (R81). -/
  | beginOp
  /-- `CAN_TRANSMIT` (R82). -/
  | canTransmit
  /-- `WRITE_FRAME(destination, payload, anonymous)` (R83, R84). -/
  | writeFrame (destination : NodeId) (anonymous : Bool) (payload : List Byte)
  /-- `POLL_FRAME` (R85). -/
  | pollFrame
  /-- Reserved host code `0b101` (R52). -/
  | reserved5
  /-- Reserved host code `0b110` (R52). -/
  | reserved6
  /-- Reserved host code `0b111` (R52). -/
  | reserved7
  /-- One byte-ready event (R88, R89). -/
  | irq
  /-- Request `IDLE` (R34). -/
  | tIdle
  /-- Request `SLEEP` (R34, R104). -/
  | tSleep
  /-- Request `RX_ON` (R34). -/
  | tRxOn
  /-- Request `TX_ON` (R34). -/
  | tTxOn
  /-- Request `FIFO_READ` (R34). -/
  | tFifoRead
  /-- Request `FIFO_WRITE` with `t_wdata[7:0]` (R34). -/
  | tFifoWrite (data : Byte)
  /-- Request `STATUS_READ` (R34). -/
  | tStatusRead
  /-- Request `FIFO_DRAIN` (R34). -/
  | tFifoDrain
  /-- Request `CONFIG` (R34). -/
  | tConfig
  /-- Data format `HEADER` (R46). -/
  | header (destination sender : NodeId) (length : PayloadLen)
  /-- Data format `FRAME` (R45); `length` of its header is the payload's. -/
  | frame (groupId : Byte) (destination sender : NodeId) (payload : List Byte) (crc : Word16)
  deriving DecidableEq, Repr

/-- The port on which a row's word stands. -/
def Instr.port : Instr → Port
  | .construct _ _ _ | .beginOp | .canTransmit | .writeFrame _ _ _ | .pollFrame => .host
  | .reserved5 | .reserved6 | .reserved7 => .host
  | .irq => .irq
  | .tIdle | .tSleep | .tRxOn | .tTxOn | .tFifoRead | .tFifoWrite _ | .tStatusRead | .tFifoDrain | .tConfig => .treq
  | .header _ _ _ => .header
  | .frame _ _ _ _ _ => .frame

/-- Why the decoder rejects a word. -/
inductive Reject where
  /-- The word ends before its operands do. -/
  | truncated
  /-- The byte on the host port has a bit outside `h_op[2:0]`. -/
  | beyondHostPort
  /-- The byte-ready line is not asserted: no event. -/
  | noEvent
  /-- `t_req` 9 to 15, which no rule issues (R51), or a bit outside `t_req[3:0]`. -/
  | neverIssued
  /-- Bytes 0 to 3 or the trailer pad are not those of the format `FRAME` (R45; DESIGN CHOICE, log 26). -/
  | notAFrame
  deriving DecidableEq, Repr

end Sys2Proof
end

