-- ==== Sys2Proof/WellFormed.lean ====
section
/-!
DEFINITION. When an instruction has an encoding: the bounds its operands' types do not give.
-/

namespace Sys2Proof

/-- `WRITE_FRAME` takes a payload of 0 to 255 bytes (R50); a `FRAME` carries 0 to 63 (R45, R46). Every other operand
is bounded by its type. -/
abbrev Instr.WellFormed : Instr → Prop
  | .writeFrame _ _ payload => payload.length ≤ Config.maxHostPayload
  | .frame _ _ _ payload _ => payload.length ≤ Config.maxPayload
  | .construct _ _ _ | .beginOp | .canTransmit | .pollFrame => True
  | .reserved5 | .reserved6 | .reserved7 | .irq => True
  | .tIdle | .tSleep | .tRxOn | .tTxOn | .tFifoRead | .tFifoWrite _ | .tStatusRead | .tFifoDrain | .tConfig => True
  | .header _ _ _ => True

end Sys2Proof
end

