-- ==== Sys2Proof/Decode.lean ====
section
/-!
DEFINITION. The decoder, total on any bytes, and after it the encoder. How operands stand in a word is this model's choice
(the source has no operation codes and no operand layout, D3; log 3): the code byte, then the operands in the order of
R50, one byte each, then a payload preceded by its length.
-/

namespace Sys2Proof

open Sys2Proof.Machine (decodeHeader packHeader wireBytes bigEndian hiByte loByte)

/-- What decoding a word answers. -/
inductive Decoded where
  /-- The instruction and the bytes after it. -/
  | ok (i : Instr) (rest : List Byte)
  /-- The word is rejected. -/
  | error (r : Reject)
  deriving DecidableEq, Repr

/-- The first `n` bytes and the rest, if there are so many. -/
def splitBytes : Nat → List Byte → Option (List Byte × List Byte)
  | 0, rest => some ([], rest)
  | _ + 1, [] => none
  | n + 1, b :: bs =>
    match splitBytes n bs with
    | some (front, rest) => some (b :: front, rest)
    | none => none

/-- The number of a band: one byte below 255, or 255 and more to add, since no width is given (log 3, 8). -/
def decodeBand : List Byte → Option (Band × List Byte)
  | [] => none
  | b :: rest =>
    if b = 0xFF then
      match decodeBand rest with
      | some (band, rest) => some (255 + band, rest)
      | none => none
    else some (b.toNat, rest)

/-- The operands of `CONSTRUCT` (R50). Ports are 5 bits wide: of a byte the low 5 bits are taken (D21, U13). -/
def decodeConstruct (bytes : List Byte) : Decoded :=
  match decodeBand bytes with
  | some (band, group :: node :: rest) => .ok (.construct band group (node.setWidth 5)) rest
  | _ => .error .truncated

/-- The operands of `WRITE_FRAME` (R50): destination, anonymous, `P`, then `P` bytes. -/
def decodeWriteFrame : List Byte → Decoded
  | dest :: anon :: len :: rest =>
    match splitBytes len.toNat rest with
    | some (payload, rest) => .ok (.writeFrame (dest.setWidth 5) (anon.getLsbD 0) payload) rest
    | none => .error .truncated
  | _ => .error .truncated

/-- Format `HOST` (R49, R52). -/
def decodeHost : List Byte → Decoded
  | [] => .error .truncated
  | op :: rest =>
    match op.toNat with
    | 0 => decodeConstruct rest
    | 1 => .ok .beginOp rest
    | 2 => .ok .canTransmit rest
    | 3 => decodeWriteFrame rest
    | 4 => .ok .pollFrame rest
    | 5 => .ok .reserved5 rest
    | 6 => .ok .reserved6 rest
    | 7 => .ok .reserved7 rest
    | _ => .error .beyondHostPort

/-- Format `IRQ`: a single encoding, the line asserted (R51). DESIGN CHOICE (log 3): the line is bit 0 of its byte, and bits 7 to 1
are not looked at. -/
def decodeIrq : List Byte → Decoded
  | [] => .error .truncated
  | line :: rest => if line.getLsbD 0 then .ok .irq rest else .error .noEvent

/-- The data byte of `FIFO_WRITE` (R51). -/
def decodeFifoWrite : List Byte → Decoded
  | data :: rest => .ok (.tFifoWrite data) rest
  | [] => .error .truncated

/-- Format `TREQ` (R51). -/
def decodeTreq : List Byte → Decoded
  | [] => .error .truncated
  | req :: rest =>
    match req.toNat with
    | 0 => .ok .tIdle rest
    | 1 => .ok .tSleep rest
    | 2 => .ok .tRxOn rest
    | 3 => .ok .tTxOn rest
    | 4 => .ok .tFifoRead rest
    | 5 => decodeFifoWrite rest
    | 6 => .ok .tStatusRead rest
    | 7 => .ok .tFifoDrain rest
    | 8 => .ok .tConfig rest
    | _ => .error .neverIssued

/-- Format `HEADER`: `header_hi` first (R31, R46). Every value is legal. -/
def decodeHeaderWord : List Byte → Decoded
  | b0 :: b1 :: rest =>
    .ok (.header (decodeHeader b0 b1).destination (decodeHeader b0 b1).sender (decodeHeader b0 b1).length) rest
  | _ => .error .truncated

/-- The end of a frame: CRC and trailer pad (R45). DESIGN CHOICE (log 26): bytes with another pad are not a word of the format
`FRAME` and are rejected; the block itself, which never sees a pad byte, calls none of them illegal (R52, R55). -/
def decodeFrameTail (groupId : Byte) (destination sender : NodeId) (payload : List Byte) : List Byte → Decoded
  | c1 :: c0 :: p0 :: p1 :: p2 :: rest =>
    if p0 = Config.pad ∧ p1 = Config.pad ∧ p2 = Config.pad then
      .ok (.frame groupId destination sender payload (bigEndian c1 c0)) rest
    else .error .notAFrame
  | _ => .error .truncated

/-- Format `FRAME` (R45, R53): the length comes from the frame's own header. DESIGN CHOICE (log 26): bytes with another preamble
or sync are not a word of the format and are rejected; the block itself never sees them (R44, R52, R55). -/
def decodeFrame : List Byte → Decoded
  | a0 :: a1 :: a2 :: s :: group :: b0 :: b1 :: rest =>
    if a0 = Config.preamble ∧ a1 = Config.preamble ∧ a2 = Config.preamble ∧ s = Config.sync then
      match splitBytes (decodeHeader b0 b1).length.toNat rest with
      | some (payload, rest) =>
        decodeFrameTail group (decodeHeader b0 b1).destination (decodeHeader b0 b1).sender payload rest
      | none => .error .truncated
    else .error .notAFrame
  | _ => .error .truncated

/-- The instruction that the bytes of a word on a port stand for, or why there is none. -/
def decode : Port → List Byte → Decoded
  | .host, bytes => decodeHost bytes
  | .irq, bytes => decodeIrq bytes
  | .treq, bytes => decodeTreq bytes
  | .header, bytes => decodeHeaderWord bytes
  | .frame, bytes => decodeFrame bytes

/-- A bit as the low bit of a byte. -/
def boolByte (b : Bool) : Byte := if b then 1 else 0

/-- The number of a band as bytes. -/
def encodeBand (band : Band) : List Byte := List.replicate (band / 255) 0xFF ++ [BitVec.ofNat 8 (band % 255)]

/-- The word of a well-formed instruction, on the port `i.port`. -/
def encode : Instr → List Byte
  | .construct band groupId nodeId => 0 :: encodeBand band ++ [groupId, nodeId.setWidth 8]
  | .beginOp => [1]
  | .canTransmit => [2]
  | .writeFrame destination anonymous payload =>
    3 :: destination.setWidth 8 :: boolByte anonymous :: BitVec.ofNat 8 payload.length :: payload
  | .pollFrame => [4]
  | .reserved5 => [5]
  | .reserved6 => [6]
  | .reserved7 => [7]
  | .irq => [1]
  | .tIdle => [0]
  | .tSleep => [1]
  | .tRxOn => [2]
  | .tTxOn => [3]
  | .tFifoRead => [4]
  | .tFifoWrite data => [5, data]
  | .tStatusRead => [6]
  | .tFifoDrain => [7]
  | .tConfig => [8]
  | .header destination sender length =>
    [(packHeader destination sender length).1, (packHeader destination sender length).2]
  | .frame groupId destination sender payload crc => wireBytes groupId destination sender payload crc

/-! ## Words as spec/opcode_table.json numbers their bits -/

/-- The port of a table row with `nbits` bits. Rows of the formats HOST, IRQ and TREQ all fill one byte, so in whole bytes
their codes overlap: 8 bits are read as a host code, and 8, which no host code is, as a request (log 4). -/
def tablePort (nbits w : Nat) : Port :=
  if nbits = 1 then .irq
  else if nbits = 4 then .treq
  else if nbits = 8 then (if w < 8 then .host else .treq)
  else if nbits = 16 then .header
  else if 96 ≤ nbits then .frame
  else .host

/-- Byte `k` of a number, byte 0 the least significant. -/
def byteAt (w k : Nat) : Byte := BitVec.ofNat 8 (w >>> (8 * k))

/-- The longest word whose band, if any, is below 255: `WRITE_FRAME` with 255 payload bytes. -/
def longestWord : Nat := 4 + Config.maxHostPayload

/-- The bytes of a table word as they stand on its port; every bit above `nbits` is 0. A header is one 16-bit word whose
high byte is first (R31). -/
def tableBytes (nbits w : Nat) : List Byte :=
  if tablePort nbits w = .header then [byteAt w 1, byteAt w 0]
  else (List.range ((nbits + 7) / 8)).map (byteAt w) ++ List.replicate longestWord 0

/-- The instruction the decoder reads from a table word. -/
def decodeTableWord (nbits w : Nat) : Option Instr :=
  match decode (tablePort nbits w) (tableBytes nbits w) with
  | .ok i _ => some i
  | .error _ => none

end Sys2Proof
end

