-- ==== Sys2Proof/Machine/State.lean ====
section
/-!
DEFINITION. The state of the block (10_state.md), what stands outside it as plain data (the host's coming calls, the order
of the agents' steps, the transceiver's coming replies), the outputs, and the state after reset.
-/

namespace Sys2Proof.Machine

/-- The mode register (R10); codes 5 to 7 are never produced and the type does not contain them (U6). -/
inductive LinkState where
  /-- Transceiver commanded idle, neither sequencer active. -/
  | idle
  /-- Receiver commanded on, no byte of a frame taken yet. -/
  | listening
  /-- At least one byte of a frame taken. -/
  | receiving
  /-- A frame is sealed in `rxBuf`, waiting for the host. -/
  | receiveComplete
  /-- Transmit sequencer active. -/
  | sending
  deriving DecidableEq, Repr

/-- A `WRITE_FRAME` that has been started and has not returned, with its operands (R22). -/
inductive HostPhase where
  | none
  /-- Called, still testing for `Receiving`. -/
  | writeWaiting (destination : NodeId) (anonymous : Bool) (payload : List Byte)
  /-- Has seen `linkState` other than `Receiving`, has not yet performed the arming step. -/
  | writeArming (destination : NodeId) (anonymous : Bool) (payload : List Byte)
  deriving DecidableEq, Repr

/-- One entry of the request trace: a request, its data, and its reply if used (R34, R36). -/
inductive Request where
  | idle
  | sleep
  | rxOn
  | txOn
  | fifoRead (reply : Byte)
  | fifoWrite (data : Byte)
  | statusRead (reply : Bool)
  | fifoDrain
  | config (band : Band) (groupId : Byte)
  deriving DecidableEq, Repr

/-- The error classes of 60_exceptions.md. They are labels: none transfers control or is stored by the block (R99). -/
inductive ErrorClass where
  /-- E1 (R94). -/
  | channelBusy
  /-- E2 (R95). -/
  | crcMismatch
  /-- E3 (R96). -/
  | misaddressedFrame
  /-- E4 (R97). -/
  | frameTruncationOverflow
  /-- E5 (R98). -/
  | staleReceptionStall
  deriving DecidableEq, Repr

/-- `w_status` (R50); code 3 is unused and not in the type (U4). -/
inductive WStatus where
  | ok
  | channelBusy
  | staleReceptionStall
  deriving DecidableEq, Repr

/-- A frame as `POLL_FRAME` returns it, by value (R43, R85). -/
structure ReceivedFrame where
  sender : NodeId
  destination : NodeId
  payload : List Byte
  deriving DecidableEq, Repr

/-- What an operation gives back to the host when its last step ends (R50). -/
inductive HostReturn where
  /-- `CONSTRUCT`, `BEGIN`: no result. -/
  | noResult
  /-- `CAN_TRANSMIT`. -/
  | clear (c : Bool)
  /-- `WRITE_FRAME`. -/
  | wStatus (w : WStatus)
  /-- `POLL_FRAME`: `None` or `Some`. -/
  | polled (r : Option ReceivedFrame)
  deriving DecidableEq, Repr

/-- Which agent or input takes the next step (R7, R100, R119; log 1). -/
inductive Turn where
  /-- The host: it starts its next call, or takes the next step of the `WRITE_FRAME` in progress. -/
  | host
  /-- One byte-ready event. -/
  | irq
  /-- The wait of `WRITE_FRAME` gives up, where `SPIN_TIMEOUT_ENABLE` lets it (R83). -/
  | timeout
  /-- The reset input. -/
  | reset
  /-- One exchange on the request port by itself: not a step of an agent of R7 (log 12). -/
  | exchange (word : List Byte)
  /-- Two header bytes arrive at the transceiver (log 13). -/
  | header (word : List Byte)
  /-- A wire frame arrives at the transceiver (log 13). -/
  | frame (word : List Byte)
  deriving DecidableEq, Repr

/-- What stands outside the block: inputs, each a list the step reads from the front. -/
structure Env where
  /-- The order of the steps (log 1). -/
  turns : List Turn
  /-- The calls the host will make, one word each (log 1, 2). -/
  hostCalls : List (List Byte)
  /-- The coming replies of `FIFO_READ` (R35; log 5). -/
  fifoDraws : List Byte
  /-- The coming replies of `STATUS_READ` (R35; log 5). -/
  statusDraws : List Bool
  /-- How many replies have been taken beyond the listed ones; the free replies are applied to it (log 5). -/
  drawCount : Nat
  deriving DecidableEq, Repr

/-- A byte buffer: offset and byte of each cell that has been written, offsets rising (log 7). -/
abbrev Mem := List Host.Cell

/-- The state. The fields up to `trace` are the spec's (10_state.md); the rest are the model's own. -/
structure State where
  /-- R9. -/
  band : Band
  /-- R9. -/
  groupId : Byte
  /-- R9. -/
  nodeId : NodeId
  /-- R10. -/
  linkState : LinkState
  /-- R12. -/
  rxBuf : Mem
  /-- R14. -/
  rxCursor : Cursor
  /-- R15. -/
  rxLen : PayloadLen
  /-- R16. -/
  rxCrc : Word16
  /-- R17. -/
  rxAvailable : Bool
  /-- R18. -/
  rxCrcValid : Bool
  /-- R19. -/
  txBuf : Mem
  /-- R20. -/
  txLen : Cursor
  /-- R21. -/
  txCursor : Cursor
  /-- R22. -/
  hostPhase : HostPhase
  /-- The request trace, oldest first (R36). -/
  trace : List Request
  /-- Whether `CONSTRUCT` has given the identity registers a value (R26; log 6). -/
  constructed : Bool
  /-- The parameters of R6 (log 9). -/
  params : Params
  /-- The results given to the host since reset, oldest first (R50; log 14). -/
  returns : List HostReturn
  /-- The error-class labels of the steps since reset, oldest first (R99; log 14). -/
  raised : List ErrorClass
  /-- The inputs to come. -/
  env : Env
  deriving DecidableEq, Repr

/-- Why the machine stops with a fault. -/
inductive Fault where
  /-- A buffer offset at or above the buffer's capacity: raised by the receive step (`execIrq`) when `rxCursor` is not
  below `MAX_PACKET`, and by `execPollFrame` when the payload of the frame it would copy out ends beyond it. R32: no
  reachable state gets there. Safe (the model stops; log 18). -/
  | bufferBounds
  deriving DecidableEq, Repr

/-- Why an instruction or a word has no next state. -/
inductive Refusal where
  /-- An instruction without a meaning yet, by its mnemonic: raised by `exec`'s arms only. Safe. -/
  | notModelled (mnemonic : String)
  /-- A reserved host code (R52, U5): raised by `execReserved5`, `execReserved6`, `execReserved7`. Safe. -/
  | reservedHostCode (code : BitVec 3)
  /-- `BEGIN`, `WRITE_FRAME` or `POLL_FRAME` before any `CONSTRUCT`, which the spec has a model refuse (R26, R108, U1): raised by
  `execBeginOp`, `execWriteFrame` and `execPollFrame`. Safe. -/
  | identityUnset
  /-- A host operation while a `WRITE_FRAME` is in progress (R22, R119): raised by the meanings of the host operations;
  `step` never starts one then. Safe (log 15). -/
  | hostHeld
  /-- A word that no row encodes: raised by `step`. Safe. -/
  | undecodable (r : Reject)
  deriving DecidableEq, Repr

/-- Nothing placed outside the block. -/
def Env.empty : Env :=
  { turns := [], hostCalls := [], fifoDraws := [], statusDraws := [], drawCount := 0 }

/-- The machine right after reset (R26, R105). `band`, `groupId` and `nodeId` have no reset value in the spec: 0 is this
model's (DESIGN CHOICE, log 6), and `constructed = false` keeps any operation from using it. -/
def State.reset : State where
  band := 0
  groupId := 0
  nodeId := 0
  linkState := .idle
  rxBuf := []
  rxCursor := 0
  rxLen := 0
  rxCrc := 0xFFFF
  rxAvailable := false
  rxCrcValid := false
  txBuf := []
  txLen := 0
  txCursor := 0
  hostPhase := .none
  trace := []
  constructed := false
  params := Params.decided
  returns := []
  raised := []
  env := Env.empty

end Sys2Proof.Machine
end

