-- ==== Sys2Proof/Machine/Ops.lean ====
section
/-!
DEFINITION. The named operations over the buffers, the request port, the outputs and the receive bookkeeping. Every meaning
is written over these.
-/

namespace Sys2Proof.Machine

/-- The outcome of a step of this machine. -/
abbrev Outcome := Host.Outcome State Fault Refusal

/-! ## Buffers (20_memory.md): one byte at a natural offset, the only access there is (R32, R33) -/

/-- The byte of a cell that has been written, if it has. -/
def Mem.read? : Mem → Nat → Option Byte
  | [], _ => none
  | (k, v) :: m, a => if k = a then some v else Mem.read? m a

/-- Write one cell, keeping the offsets rising. -/
def Mem.write : Mem → Nat → Byte → Mem
  | [], a, b => [(a, b)]
  | (k, v) :: m, a, b =>
    if a < k then (a, b) :: (k, v) :: m
    else if a = k then (a, b) :: m
    else (k, v) :: Mem.write m a b

/-- Write bytes into the cells from `a` on, in order (the loop of R84). -/
def Mem.writeAll : Mem → Nat → List Byte → Mem
  | m, _, [] => m
  | m, a, b :: bs => Mem.writeAll (Mem.write m a b) (a + 1) bs

/-- The canonical form: offsets strictly rising. An unlisted cell holds no value, so no entry equals it. -/
abbrev Mem.Wf (m : Mem) : Prop := m.Pairwise (fun x y => x.1 < y.1)

/-- Every listed offset exists in a buffer of the given capacity. -/
abbrev Mem.Within (m : Mem) (capacity : Nat) : Prop := ∀ c ∈ m, c.1 < capacity

/-- `rxBuf[i]`; a cell that nothing has written reads as a free value (U9; log 7). -/
def State.readRx (s : State) (i : Nat) : Byte := (s.rxBuf.read? i).getD (Config.unwrittenRx i)

/-- `txBuf[i]`; a cell that nothing has written reads as a free value (U9; log 7). -/
def State.readTx (s : State) (i : Nat) : Byte := (s.txBuf.read? i).getD (Config.unwrittenTx i)

/-! ## The request port: `T(req)` (R34 to R36) -/

/-- One exchange: it appends one entry to the request trace (R36). -/
def State.issue (r : Request) (s : State) : State := { s with trace := s.trace ++ [r] }

/-- The reply of the next `FIFO_READ`: the first listed one, else a free value (R35; log 5). -/
def State.fifoReply (s : State) : Byte :=
  s.env.fifoDraws.head?.getD (Config.freeFifoByte s.env.drawCount)

/-- The reply of the next `STATUS_READ`: the first listed one, else a free value (R35; log 5). -/
def State.carrierReply (s : State) : Bool :=
  s.env.statusDraws.head?.getD (Config.freeCarrier s.env.drawCount)

/-- The coming replies after one `FIFO_READ`: each reply is used once (R38). -/
def Env.popFifo (e : Env) : Env :=
  match e.fifoDraws with
  | _ :: rest => { e with fifoDraws := rest }
  | [] => { e with drawCount := e.drawCount + 1 }

/-- The coming replies after one `STATUS_READ`. -/
def Env.popStatus (e : Env) : Env :=
  match e.statusDraws with
  | _ :: rest => { e with statusDraws := rest }
  | [] => { e with drawCount := e.drawCount + 1 }

/-- The state after `T(FIFO_READ)`; the reply is `s.fifoReply`. -/
def State.fifoRead (s : State) : State :=
  { s.issue (.fifoRead s.fifoReply) with env := s.env.popFifo }

/-- The state after `T(STATUS_READ)`; the reply is `s.carrierReply`. -/
def State.statusRead (s : State) : State :=
  { s.issue (.statusRead s.carrierReply) with env := s.env.popStatus }

/-! ## Outputs -/

/-- An operation returns its result to the host (R50). -/
def State.give (r : HostReturn) (s : State) : State := { s with returns := s.returns ++ [r] }

/-- `raise E`: the one thing an error class does. The block has no trap mechanism: nothing is saved, no mode changes, control
goes nowhere (R99); the step is labelled. -/
def State.raise (e : ErrorClass) (s : State) : State := { s with raised := s.raised ++ [e] }

/-! ## Who may act -/

/-- A host operation may start only when none is in progress (R22, R119). -/
def State.asHost (s : State) (k : State → Outcome) : Outcome :=
  match s.hostPhase with
  | .none => k s
  | .writeWaiting _ _ _ | .writeArming _ _ _ => .refused .hostHeld

/-- `BEGIN`, `WRITE_FRAME` and `POLL_FRAME` are refused until `CONSTRUCT` has written the identity registers: R108 and U1 say so in
words, and R26 that an operation that reads one before that is refused. -/
def State.withIdentity (s : State) (k : State → Outcome) : Outcome :=
  if s.constructed then k s else .refused .identityUnset

/-! ## Receive bookkeeping -/

/-- `ArmListen` (R79). -/
def State.armListen (s : State) : State :=
  { s.issue .rxOn with
    rxCursor := 0
    rxLen := 0
    rxCrc := Config.crcSeed
    rxAvailable := false
    rxCrcValid := false
    linkState := .listening }

end Sys2Proof.Machine
end

