-- ==== Sys2Proof/Machine/Operands.lean ====
section
/-!
DEFINITION. The operand forms: the views of `rxBuf` (R13, R29) and the operands of the frame builder (R84).
-/

namespace Sys2Proof.Machine

/-- The header view of `rxBuf`, decoded (R13, R60). -/
def State.rxHeader (s : State) : Header := decodeHeader (s.readRx 0) (s.readRx 1)

/-- The first `l` bytes of the payload view of `rxBuf` (R13). -/
def State.rxPayload (s : State) (l : Nat) : List Byte := (List.range l).map (fun k => s.readRx (2 + k))

/-- The high byte of the trailer view of `rxBuf` (R13). -/
def State.rxTrailerHi (s : State) : Byte := s.readRx (s.rxLen.toNat + 2)

/-- The low byte of the trailer view of `rxBuf` (R13). -/
def State.rxTrailerLo (s : State) : Byte := s.readRx (s.rxLen.toNat + 3)

/-- The band operand of `CONSTRUCT`: a member of the enumeration. DESIGN CHOICE (log 8): a number that names none is taken modulo
the number of members, as a port takes the low bits of a wider value (D21). -/
def State.bandOperand (s : State) (band : Band) : Band := band % s.params.bandCount

/-- The sender operand of the frame builder: none for an anonymous send, else `nodeId` (R84). -/
def State.senderOperand (s : State) (anonymous : Bool) : Option NodeId :=
  if anonymous then none else some s.nodeId

/-- The bytes the arming step stores (R61, R84). -/
def State.frameToSend (s : State) (destination : NodeId) (anonymous : Bool) (payload : List Byte) : List Byte :=
  encodeFrame s.params.maxSignal s.groupId destination (s.senderOperand anonymous) payload

end Sys2Proof.Machine
end

