-- ==== Sys2Proof/Machine/Flags.lean ====
section
/-!
DEFINITION. The flag computations and conditions: classification of a received byte, seal condition, CRC validity, frame
availability, address filter, error classification, and the codes and outputs the host sees.
-/

namespace Sys2Proof.Machine

/-! ## Receive sequencer -/

/-- Whether the byte at offset `c` is accumulated into `rxCrc`: header bytes (R68) and payload bytes (R69) are, trailer
bytes (R70) are not. -/
def accumulates (c : Nat) (rxLen : PayloadLen) : Bool := c < 2 || c < rxLen.toNat + 2

/-- `rxCrc` after the byte `b` at offset `c` (R68 to R70). -/
def crcAfter (c : Nat) (rxLen : PayloadLen) (rxCrc : Word16) (b : Byte) : Word16 :=
  if accumulates c rxLen then crc16Update rxCrc b else rxCrc

/-- `rxLen` after the byte `b` at offset `c`: latched from header byte 1 (R15, R68). -/
def lenAfter (c : Nat) (rxLen : PayloadLen) (b : Byte) : PayloadLen :=
  if c = 1 then lengthField b else rxLen

/-- The frame has its natural length (R72); the sum is of natural numbers (R64). -/
def State.atNaturalLength (s : State) : Bool := s.rxCursor.toNat == s.rxLen.toNat + 4

/-- The seal condition (R72). -/
def State.sealDue (s : State) : Bool := s.atNaturalLength || s.rxCursor.toNat == s.params.maxPacket

/-- The value of `rxCrcValid` at the seal (R73): the left operand guards the right. -/
def State.crcVerdict (s : State) : Bool :=
  s.atNaturalLength && validate s.rxCrc s.rxTrailerHi s.rxTrailerLo

/-! ## Transmit sequencer -/

/-- The condition of the push arm (R76). -/
def State.pushDue (s : State) : Bool :=
  s.txCursor.toNat < s.txLen.toNat && s.txCursor.toNat < s.params.maxSignal

/-! ## `POLL_FRAME` -/

/-- "A frame is available" (R17, R85). -/
def State.frameAvailable (s : State) : Bool := s.linkState == .receiveComplete && s.rxAvailable

/-- The address filter (R85, R96). -/
def State.addressed (s : State) : Bool :=
  s.rxHeader.destination == s.nodeId || s.rxHeader.destination == Config.broadcast

/-- The class of a discarded frame: address first, then capacity, then CRC (R85, R100). -/
def State.discardClass (s : State) : ErrorClass :=
  if !s.addressed then .misaddressedFrame
  else if s.rxLen.toNat + 4 > s.params.maxPacket then .frameTruncationOverflow
  else .crcMismatch

/-- The payload of the received frame lies in the buffer: of the offsets 2 to `l + 1` each exists (R32). -/
def State.payloadInBounds (s : State) : Bool := s.rxHeader.length.toNat + 2 ≤ s.params.maxPacket

/-- The frame `POLL_FRAME` copies out (R85). -/
def State.receivedFrame (s : State) : ReceivedFrame where
  sender := s.rxHeader.sender
  destination := s.rxHeader.destination
  payload := s.rxPayload s.rxHeader.length.toNat

/-! ## Codes and outputs -/

/-- The code of a link state (R10). -/
def LinkState.code : LinkState → BitVec 3
  | .idle => 0
  | .listening => 1
  | .receiving => 2
  | .receiveComplete => 3
  | .sending => 4

/-- The status output `link_state[2:0]` (R24). -/
def State.linkStateOut (s : State) : BitVec 3 := s.linkState.code

/-- The status output `rx_available` (R24). -/
def State.rxAvailableOut (s : State) : BitVec 1 := BitVec.ofBool s.rxAvailable

/-- The code of `w_status[1:0]` (R50). -/
def WStatus.code : WStatus → BitVec 2
  | .ok => 0
  | .channelBusy => 1
  | .staleReceptionStall => 2

/-- The result `clear` of `CAN_TRANSMIT` (R50). -/
def clearBit (clear : Bool) : BitVec 1 := BitVec.ofBool clear

/-- The result `r_valid` of `POLL_FRAME` (R50). -/
def rValid (r : Option ReceivedFrame) : BitVec 1 := BitVec.ofBool r.isSome

/-- The result `r_length[5:0]` of a returned frame (R50). -/
def ReceivedFrame.rLength (f : ReceivedFrame) : PayloadLen := BitVec.ofNat 6 f.payload.length

end Sys2Proof.Machine
end

