-- ==== Sys2Proof/Machine/Receive.lean ====
section
/-!
DEFINITION. The receive step (41_rx_sequencer.md), the arm of `IRQ` taken in `Listening` and `Receiving`.
-/

namespace Sys2Proof.Machine

/-- Take one byte: fetch it (R67), store it at the cursor, account for it (R68 to R70) and advance (R71). In
`Listening` the same event begins the frame (R66). -/
def State.takeByte (s : State) : State :=
  { s.fifoRead with
    linkState := .receiving
    rxBuf := s.rxBuf.write s.rxCursor.toNat s.fifoReply
    rxCrc := crcAfter s.rxCursor.toNat s.rxLen s.rxCrc s.fifoReply
    rxLen := lenAfter s.rxCursor.toNat s.rxLen s.fifoReply
    rxCursor := s.rxCursor + 1#7 }

/-- The seal actions (R73): `rxCrcValid` is computed from the cursor before its reset. -/
def State.sealFrame (s : State) : State :=
  { (s.issue .idle).issue .fifoDrain with
    rxCrcValid := s.crcVerdict
    rxAvailable := true
    linkState := .receiveComplete
    rxCursor := 0 }

/-- Seal if the seal condition holds (R72). -/
def State.sealIfDue (s : State) : State := if s.sealDue then s.sealFrame else s

/-- The receive step (R65): one byte, then the seal if it is due. -/
def receiveStep (s : State) : Outcome :=
  if s.rxCursor.toNat < s.params.maxPacket then .next s.takeByte.sealIfDue else .fault .bufferBounds

end Sys2Proof.Machine
end

