-- ==== Sys2Proof/Machine/Transmit.lean ====
section
/-!
DEFINITION. The transmit step (42_tx_sequencer.md), the arm of `IRQ` taken in `Sending`.
-/

namespace Sys2Proof.Machine

/-- The push arm (R76). -/
def State.pushByte (s : State) : State :=
  { s.issue (.fifoWrite (s.readTx s.txCursor.toNat)) with txCursor := s.txCursor + 1#7 }

/-- The completion arm (R77): `Idle`, never `Listening` (D14). -/
def State.completeSend (s : State) : State :=
  { (s.issue .idle).issue (.fifoWrite Config.pad) with linkState := .idle }

/-- The transmit step. -/
def transmitStep (s : State) : State := if s.pushDue then s.pushByte else s.completeSend

end Sys2Proof.Machine
end

