-- ==== Sys2Proof/Machine/Interrupt.lean ====
section
/-!
DEFINITION. The byte-ready event (60_exceptions.md): dispatch on `linkState`. Entry saves nothing and there is nothing to
return from (R89, R90).
-/

namespace Sys2Proof.Machine

/-- `IRQ` (R89). -/
def execIrq (s : State) : Outcome :=
  match s.linkState with
  | .idle | .receiveComplete => .next s
  | .listening | .receiving => receiveStep s
  | .sending => .next (transmitStep s)

end Sys2Proof.Machine
end

