-- ==== Sys2Proof/Machine/LinkController.lean ====
section
/-!
DEFINITION. The link controller (43_link_controller.md): the five host operations, and the steps by which a `WRITE_FRAME` that
has been called goes on.
-/

namespace Sys2Proof.Machine

/-- `CONSTRUCT` (R80): the column "after `CONSTRUCT`" of R26. `nodeId = 0` is outside the legal range; the rules are total
and the model runs it (U3; log 10), as it runs a second `CONSTRUCT` (U2; log 11). -/
def execConstruct (band : Band) (groupId : Byte) (nodeId : NodeId) (s : State) : Outcome :=
  s.asHost fun s => .next <| State.give .noResult
    { s with
      band := s.bandOperand band
      groupId := groupId
      nodeId := nodeId
      constructed := true
      linkState := .idle
      rxCursor := 0
      rxLen := 0
      rxCrc := Config.crcSeed
      rxAvailable := false
      rxCrcValid := false
      txLen := 0
      txCursor := 0
      hostPhase := .none }

/-- `BEGIN` (R81). -/
def execBeginOp (s : State) : Outcome :=
  s.asHost fun s => s.withIdentity fun s =>
    .next <| State.give .noResult { s.issue (.config s.band s.groupId) with linkState := .idle }

/-- The clear path of `CAN_TRANSMIT` (R82). -/
def State.clearChannel (s : State) : State :=
  { (s.issue .idle).issue .fifoDrain with linkState := .idle }

/-- `CAN_TRANSMIT` (R82); a busy channel is error class E1 (R94). -/
def execCanTransmit (s : State) : Outcome :=
  s.asHost fun s => .next <|
    if s.carrierReply then (s.statusRead.raise .channelBusy).give (.clear false)
    else s.statusRead.clearChannel.give (.clear true)

/-- `WRITE_FRAME`, the call (R83): no other effect. -/
def execWriteFrame (destination : NodeId) (anonymous : Bool) (payload : List Byte) (s : State) : Outcome :=
  s.asHost fun s => s.withIdentity fun s =>
    .next { s with hostPhase := .writeWaiting destination anonymous payload }

/-- The observe step of the wait (R83): the host is held while `linkState` is `Receiving`. -/
def observeStep (destination : NodeId) (anonymous : Bool) (payload : List Byte) (s : State) : State :=
  if s.linkState = .receiving then s
  else { s with hostPhase := .writeArming destination anonymous payload }

/-- Arming the transmit sequencer on a clear channel (R84). -/
def State.armSend (destination : NodeId) (anonymous : Bool) (payload : List Byte) (s : State) : State :=
  { s with
    txBuf := s.txBuf.writeAll 0 (s.frameToSend destination anonymous payload)
    txLen := BitVec.ofNat 7 (s.frameToSend destination anonymous payload).length
    txCursor := 0
    linkState := .sending }.issue .txOn

/-- The arming step (R84). It does not look at `linkState`. -/
def armStep (destination : NodeId) (anonymous : Bool) (payload : List Byte) (s : State) : State :=
  if s.carrierReply then
    ({ s with hostPhase := .none }.statusRead.raise .channelBusy).give (.wStatus .channelBusy)
  else
    ({ s with hostPhase := .none }.statusRead.armSend destination anonymous payload).give (.wStatus .ok)

/-- The host's next step in an operation in progress: observe, then arm. -/
def hostProceed (s : State) : Outcome :=
  match s.hostPhase with
  | .none => .next s
  | .writeWaiting destination anonymous payload => .next (observeStep destination anonymous payload s)
  | .writeArming destination anonymous payload =>
    .next (armStep destination anonymous payload s)

/-- The wait gives up (R83), if `SPIN_TIMEOUT_ENABLE` lets it and the host is held; otherwise there is no such step and
nothing happens (log 20). -/
def hostTimeout (s : State) : State :=
  match s.hostPhase with
  | .writeWaiting _ _ _ =>
    if s.params.spinTimeoutEnable && s.linkState == .receiving then
      ({ s with hostPhase := .none }.raise .staleReceptionStall).give (.wStatus .staleReceptionStall)
    else s
  | .none | .writeArming _ _ _ => s

/-- A sealed frame that is addressed and intact is returned, any other is discarded and classified (R85). -/
def State.consumeFrame (s : State) : State :=
  if s.addressed && s.rxCrcValid then s.armListen.give (.polled (some s.receivedFrame))
  else (s.armListen.raise s.discardClass).give (.polled none)

/-- `POLL_FRAME` (R85). -/
def execPollFrame (s : State) : Outcome :=
  s.asHost fun s => s.withIdentity fun s =>
    if s.linkState = .idle then .next (s.armListen.give (.polled none))
    else if s.frameAvailable then
      if s.addressed && s.rxCrcValid && !s.payloadInBounds then .fault .bufferBounds
      else .next s.consumeFrame
    else .next (s.give (.polled none))

end Sys2Proof.Machine
end

