-- ==== Sys2Proof/Machine/Reserved.lean ====
section
/-!
DEFINITION. The reserved host codes: the spec gives them no behaviour and has a model refuse them (R52, U5).
-/

namespace Sys2Proof.Machine

/-- Host code `0b101`. -/
def execReserved5 (_s : State) : Outcome := .refused (.reservedHostCode 5)

/-- Host code `0b110`. -/
def execReserved6 (_s : State) : Outcome := .refused (.reservedHostCode 6)

/-- Host code `0b111`. -/
def execReserved7 (_s : State) : Outcome := .refused (.reservedHostCode 7)

end Sys2Proof.Machine
end

