-- ==== Sys2Proof/Machine/TransceiverPort.lean ====
section
/-!
DEFINITION. The transceiver port (20_memory.md section 4): each request of the table as one exchange by itself, the request
codes, the mapping to the 16-bit primitive, and what the request trace says of the transceiver.
-/

namespace Sys2Proof.Machine

/-! ## The requests of the table (R34): the block's steps issue them inside themselves; by itself each is the exchange
`T(req)` of R36 (log 12). -/

/-- `T(IDLE)`. -/
def execTIdle (s : State) : Outcome := .next (s.issue .idle)

/-- `T(SLEEP)`: in the table of requests, issued by no rule (R104). -/
def execTSleep (s : State) : Outcome := .next (s.issue .sleep)

/-- `T(RX_ON)`. -/
def execTRxOn (s : State) : Outcome := .next (s.issue .rxOn)

/-- `T(TX_ON)`. -/
def execTTxOn (s : State) : Outcome := .next (s.issue .txOn)

/-- `T(FIFO_READ)`: the reply is a draw and stands in the trace (R35, R36). -/
def execTFifoRead (s : State) : Outcome := .next s.fifoRead

/-- `T(FIFO_WRITE, data)`. -/
def execTFifoWrite (data : Byte) (s : State) : Outcome := .next (s.issue (.fifoWrite data))

/-- `T(STATUS_READ)`: the reply is a draw and stands in the trace (R35, R36). -/
def execTStatusRead (s : State) : Outcome := .next s.statusRead

/-- `T(FIFO_DRAIN)`. DESIGN CHOICE (log 25): the replies listed to come are not touched; what the drain removes inside the
transceiver (R73, N8) is not the block's state. -/
def execTFifoDrain (s : State) : Outcome := .next (s.issue .fifoDrain)

/-- The request `CONFIG` with its data, `band` and `groupId` (R34). Before any `CONSTRUCT` those registers hold no value (R26), and
what the request carries is free (log 6). -/
def State.configRequest (s : State) : Request :=
  if s.constructed then .config s.band s.groupId else .config Config.unsetBand Config.unsetGroupId

/-- `T(CONFIG)`. -/
def execTConfig (s : State) : Outcome := .next (s.issue s.configRequest)

/-! ## Codes and the 16-bit primitive -/

/-- The code `t_req[3:0]` (R51). -/
def Request.code : Request → BitVec 4
  | .idle => 0
  | .sleep => 1
  | .rxOn => 2
  | .txOn => 3
  | .fifoRead _ => 4
  | .fifoWrite _ => 5
  | .statusRead _ => 6
  | .fifoDrain => 7
  | .config _ _ => 8

/-- The word sent through `command(u16)` for a request that is one call (R37); `FIFO_DRAIN` and `CONFIG` are sequences. The
place of the data byte is PRESUMED (G2; log 17). -/
def Request.command? (n : Numerals) : Request → Option Word16
  | .idle => some n.tcmdIdle
  | .sleep => some n.tcmdSleep
  | .rxOn => some n.tcmdRxOn
  | .txOn => some n.tcmdTxOn
  | .fifoRead _ => some n.tcmdFifoRead
  | .fifoWrite data => some (n.tcmdFifoWrite ||| data.setWidth 16)
  | .statusRead _ => some n.tcmdStatusRead
  | .fifoDrain => none
  | .config _ _ => none

/-- The words sent through `command(u16)` for a request, in order (R37). -/
def Request.calls (n : Numerals) : Request → List Word16
  | .fifoDrain => n.fifoDrainCalls
  | .config band groupId => n.configCalls band groupId
  | r => (r.command? n).toList

/-- The words sent through `command(u16)` for a request trace. -/
def commandsOfTrace (n : Numerals) (trace : List Request) : List Word16 := trace.flatMap (Request.calls n)

/-- The byte in the 16-bit reply to `FIFO_READ` (R37; log 17). -/
def fifoByteOfReply (reply : Word16) : Byte := reply.extractLsb' 0 8

/-- The carrier-detect bit of the 16-bit reply to `STATUS_READ` (R37). -/
def carrierOfReply (n : Numerals) (reply : Word16) : Bool := reply &&& n.carrierMask != 0

/-! ## What the trace says of the transceiver (R36, R38) -/

/-- The mode a request puts the transceiver in, if it changes the mode. The mode `sleep` is this model's (DESIGN CHOICE,
log 24). -/
inductive TransceiverMode where
  | idle
  | sleep
  | receive
  | transmit
  deriving DecidableEq, Repr

/-- Which requests change the mode: R38 lists `IDLE`, `RX_ON` and `TX_ON`. DESIGN CHOICE (log 24): `SLEEP`, of which the spec gives
no effect (R104), commands a mode of its own. -/
def Request.mode? : Request → Option TransceiverMode
  | .idle => some .idle
  | .sleep => some .sleep
  | .rxOn => some .receive
  | .txOn => some .transmit
  | .fifoRead _ | .fifoWrite _ | .statusRead _ | .fifoDrain | .config _ _ => none

/-- The mode last commanded in a trace; none when nothing was commanded. The block keeps no such register (R38): it is
read off the trace. -/
def lastMode (trace : List Request) : Option TransceiverMode :=
  trace.foldl (fun m r => r.mode? <|> m) none

/-- The data byte of a `FIFO_WRITE`. -/
def Request.written? : Request → Option Byte
  | .fifoWrite data => some data
  | _ => none

/-- The data bytes of the `FIFO_WRITE` entries after the last `TX_ON` entry and before the next `IDLE` entry: the frame as
handed to the transceiver (R36). DESIGN CHOICE (log 28): of several `TX_ON` the last counts; a trace without `TX_ON` is read from
its start, and one without a later `IDLE` to its end, where R36 names no frame. -/
def frameHanded (trace : List Request) : List Byte :=
  (((trace.reverse.takeWhile (· != .txOn)).reverse).takeWhile (· != .idle)).filterMap Request.written?

end Sys2Proof.Machine
end

