-- ==== Sys2Proof/Machine/Wire.lean ====
section
/-!
DEFINITION. The two data formats of the table (R45, R46). They are not operations: what the spec says happens with such bytes is
that they are consumed, as the replies of `FIFO_READ` (R44). Presenting one appends those bytes to the replies the
transceiver will give; the block itself does not change until its `IRQ` events take them (log 13).
-/

namespace Sys2Proof.Machine

/-- Bytes arrive at the transceiver, after those already waiting. DESIGN CHOICE (log 27): in whatever link state, also while
the receiver is off, when R115 says that frames on the air are missed; and no `FIFO_DRAIN` drops them (log 25). -/
def State.arrive (bytes : List Byte) (s : State) : State :=
  { s with env := { s.env with fifoDraws := s.env.fifoDraws ++ bytes } }

/-- `HEADER`: its two bytes, `header_hi` first (R31, R46). -/
def execHeader (destination sender : NodeId) (length : PayloadLen) (s : State) : Outcome :=
  .next (s.arrive [(packHeader destination sender length).1, (packHeader destination sender length).2])

/-- `FRAME`: the bytes after the group-sync byte, up to the CRC; preamble, sync and group-sync are the transceiver's to
recognise, and the trailer pad is not taken (R44, R47). -/
def execFrame (_groupId : Byte) (destination sender : NodeId) (payload : List Byte) (crc : Word16) (s : State) : Outcome :=
  .next (s.arrive (storedBytes destination sender payload crc))

end Sys2Proof.Machine
end

