-- ==== Sys2Proof/Machine/Dispatch.lean ====
section
/-!
DEFINITION. The one match from an instruction to its meaning.
-/

namespace Sys2Proof.Machine

def exec (i : Instr) (s : State) : Host.Outcome State Fault Refusal :=
  match i with
  | .construct band groupId nodeId => Sys2Proof.Machine.execConstruct band groupId nodeId s
  | .beginOp => Sys2Proof.Machine.execBeginOp s
  | .canTransmit => Sys2Proof.Machine.execCanTransmit s
  | .writeFrame destination anonymous payload => Sys2Proof.Machine.execWriteFrame destination anonymous payload s
  | .pollFrame => Sys2Proof.Machine.execPollFrame s
  | .reserved5 => Sys2Proof.Machine.execReserved5 s
  | .reserved6 => Sys2Proof.Machine.execReserved6 s
  | .reserved7 => Sys2Proof.Machine.execReserved7 s
  | .irq => Sys2Proof.Machine.execIrq s
  | .tIdle => Sys2Proof.Machine.execTIdle s
  | .tSleep => Sys2Proof.Machine.execTSleep s
  | .tRxOn => Sys2Proof.Machine.execTRxOn s
  | .tTxOn => Sys2Proof.Machine.execTTxOn s
  | .tFifoRead => Sys2Proof.Machine.execTFifoRead s
  | .tFifoWrite data => Sys2Proof.Machine.execTFifoWrite data s
  | .tStatusRead => Sys2Proof.Machine.execTStatusRead s
  | .tFifoDrain => Sys2Proof.Machine.execTFifoDrain s
  | .tConfig => Sys2Proof.Machine.execTConfig s
  | .header destination sender length => Sys2Proof.Machine.execHeader destination sender length s
  | .frame groupId destination sender payload crc => Sys2Proof.Machine.execFrame groupId destination sender payload crc s

end Sys2Proof.Machine
end

