-- ==== Sys2Proof/Machine/Fetch.lean ====
section
/-!
DEFINITION. Whose step comes next, and the word it runs (log 1, 2). The block fetches no instructions (R42): the words are
what the host, the byte-ready line and the outside present.
-/

namespace Sys2Proof.Machine

/-- What the next step is. -/
inductive Fetched where
  /-- A word on a port, and the state with that input taken. -/
  | word (p : Port) (bytes : List Byte) (s : State)
  /-- The host goes on with the `WRITE_FRAME` in progress. -/
  | proceed (s : State)
  /-- The wait of `WRITE_FRAME` gives up. -/
  | timeout (s : State)
  /-- The reset input. -/
  | reset (s : State)
  /-- No agent has a step to take: the block waits (R105). -/
  | nothing (s : State)
  deriving DecidableEq, Repr

/-- The state with the rest of the turns. -/
def State.withTurns (ts : List Turn) (s : State) : State := { s with env := { s.env with turns := ts } }

/-- The state with the rest of the host's calls. -/
def State.withCalls (cs : List (List Byte)) (s : State) : State := { s with env := { s.env with hostCalls := cs } }

/-- The host's turn: its next call when no operation is in progress, else the operation goes on (R22, R119). -/
def fetchHost (s : State) : Fetched :=
  match s.hostPhase with
  | .none =>
    match s.env.hostCalls with
    | c :: cs => .word .host c (s.withCalls cs)
    | [] => .nothing s
  | .writeWaiting _ _ _ | .writeArming _ _ _ => .proceed s

/-- What a turn makes of the state. -/
def fetchTurn (t : Turn) (s : State) : Fetched :=
  match t with
  | .host => fetchHost s
  | .irq => .word .irq [1] s
  | .timeout => .timeout s
  | .reset => .reset s
  | .exchange w => .word .treq w s
  | .header w => .word .header w s
  | .frame w => .word .frame w s

/-- The next step: the first of the turns. -/
def fetch (s : State) : Fetched :=
  match s.env.turns with
  | t :: ts => fetchTurn t (s.withTurns ts)
  | [] => .nothing s

/-- Hardware reset (R105, R106): every element at its reset value, no request issued, histories empty. The parameters
and what stands outside the block stay; the buffers are unspecified after reset, so no cell holds a value (log 21). -/
def hardwareReset (s : State) : State := { State.reset with params := s.params, env := s.env }

/-- A state in which the next step takes this word on this port (log 2). -/
def State.placeWord (p : Port) (bytes : List Byte) (s : State) : State :=
  match p with
  | .host => { s with hostPhase := .none }.withCalls (bytes :: s.env.hostCalls) |>.withTurns (.host :: s.env.turns)
  | .irq => s.withTurns (.irq :: s.env.turns)
  | .treq => s.withTurns (.exchange bytes :: s.env.turns)
  | .header => s.withTurns (.header bytes :: s.env.turns)
  | .frame => s.withTurns (.frame bytes :: s.env.turns)

end Sys2Proof.Machine
end

