-- ==== Sys2Proof/Machine/Step.lean ====
section
/-!
DEFINITION. One atomic step of the block (R8), and the placing of a table word where the next step takes it.
-/

namespace Sys2Proof.Machine

/-- One step: the next input's word is decoded and run, or the host goes on with its operation. -/
def step (s : State) : Host.Outcome State Fault Refusal :=
  match fetch s with
  | .word p bytes s' =>
    match decode p bytes with
    | .ok i _ => exec i s'
    | .error r => .refused (.undecodable r)
  | .proceed s' => hostProceed s'
  | .timeout s' => .next (hostTimeout s')
  | .reset s' => .next (hardwareReset s')
  | .nothing s' => .next s'

/-- `s` with a table word where the next step takes it. -/
def State.withFetchWord (s : State) (nbits w : Nat) : State :=
  s.placeWord (tablePort nbits w) (tableBytes nbits w)

end Sys2Proof.Machine
end

