-- ==== Sys2Proof/Safety.lean ====
section
/-!
DEFINITION. What claims are stated in: the invariants of R27, the named premises of R120, runs of `IRQ` events, the end of a
run (R118).
-/

namespace Sys2Proof.Machine

/-! ## Invariants (R27) -/

/-- The cells of `rxBuf` below `n` hold a value. -/
abbrev State.RxWritten (s : State) (n : Nat) : Prop := ∀ i < n, (s.rxBuf.read? i).isSome

/-- The cells of `txBuf` below `n` hold a value. -/
abbrev State.TxWritten (s : State) (n : Nat) : Prop := ∀ i < n, (s.txBuf.read? i).isSome

/-- The first `n` bytes of `rxBuf`. -/
def State.rxBytes (s : State) (n : Nat) : List Byte := (List.range n).map s.readRx

/-- How many bytes a sealed frame has: its natural length, or the capacity if that is less (R72). -/
def State.sealedSize (s : State) : Nat := min (s.rxLen.toNat + 4) s.params.maxPacket

/-- `Listening` starts a frame at offset 0 with a seeded CRC (R27 item 4). -/
abbrev State.FreshReception (s : State) : Prop :=
  s.rxCursor = 0 ∧ s.rxLen = 0 ∧ s.rxCrc = 0xFFFF ∧ s.rxAvailable = false ∧ s.rxCrcValid = false

/-- A reception in progress (R27 item 5). -/
abbrev State.MidReception (s : State) : Prop :=
  1 ≤ s.rxCursor.toNat ∧ s.rxCursor.toNat < s.params.maxPacket ∧
  (s.rxCursor.toNat = 1 → s.rxLen = 0) ∧
  (2 ≤ s.rxCursor.toNat → s.rxCursor.toNat < s.rxLen.toNat + 4 ∧ s.rxLen = lengthField (s.readRx 1)) ∧
  s.RxWritten s.rxCursor.toNat

/-- A sealed frame (R27 item 2; R73, R85: `l == rxLen`). -/
abbrev State.SealedFrame (s : State) : Prop :=
  s.rxAvailable = true ∧ s.rxLen = lengthField (s.readRx 1) ∧ s.RxWritten s.sealedSize ∧
  (s.rxCrcValid = true → s.rxLen.toNat + 4 ≤ s.params.maxPacket)

/-- The state invariant: what R27 says of every reachable state, with the parameter constraints of R6, the canonical
form of the buffers, and that the identity registers are written before they are used (R108). -/
structure State.Inv (s : State) : Prop where
  params : s.params.Valid
  rxWf : s.rxBuf.Wf
  rxWithin : s.rxBuf.Within s.params.maxPacket
  txWf : s.txBuf.Wf
  txWithin : s.txBuf.Within s.params.maxSignal
  linkConstructed : s.linkState ≠ .idle → s.constructed = true
  bandMember : s.constructed = true → s.band < s.params.bandCount
  hostConstructed : s.hostPhase ≠ .none → s.constructed = true
  listening : s.linkState = .listening → s.FreshReception
  receiving : s.linkState = .receiving → s.MidReception
  sealed : s.linkState = .receiveComplete → s.SealedFrame
  txCursorLe : s.txCursor.toNat ≤ s.txLen.toNat
  txLenLe : s.txLen.toNat ≤ s.params.maxSignal
  txLenMin : s.txLen = 0 ∨ 12 ≤ s.txLen.toNat
  sending : s.linkState = .sending → 12 ≤ s.txLen.toNat ∧ s.TxWritten s.txLen.toNat

/-- The CRC part of the invariant: the accumulator is the CRC of the header and payload bytes stored so far (R16, R58), and
of a sealed frame `rxCrcValid` says exactly that it was sealed at its natural length and its trailer matches (R18). -/
structure State.CrcInv (s : State) : Prop where
  receiving : s.linkState = .receiving →
    s.rxCrc = crc16 (s.rxBytes (min s.rxCursor.toNat (s.rxLen.toNat + 2)))
  sealed : s.linkState = .receiveComplete →
    s.rxCrc = crc16 (s.rxBytes (min s.sealedSize (s.rxLen.toNat + 2))) ∧
    (s.rxCrcValid = true ↔
      s.rxLen.toNat + 4 ≤ s.params.maxPacket ∧ s.rxCrc = bigEndian s.rxTrailerHi s.rxTrailerLo)

/-- The transceiver was last commanded into the mode the link state names (R10, R38, R115). -/
abbrev State.ModeInv (s : State) : Prop :=
  (s.linkState = .listening ∨ s.linkState = .receiving → lastMode s.trace = some .receive) ∧
  (s.linkState = .receiveComplete → lastMode s.trace = some .idle) ∧
  (s.linkState = .sending → lastMode s.trace = some .transmit)

/-- The next step is one of an agent of R7 or the reset input, and not an exchange presented by itself on the request
port (log 12). -/
abbrev State.NextNotExchange (s : State) : Prop := ∀ w ts, s.env.turns ≠ .exchange w :: ts

/-! ## What a step leaves alone -/

/-- The receive-side state is the same (R65, R75). -/
abbrev State.SameReceiveSide (s t : State) : Prop :=
  t.rxBuf = s.rxBuf ∧ t.rxCursor = s.rxCursor ∧ t.rxLen = s.rxLen ∧ t.rxCrc = s.rxCrc ∧
  t.rxAvailable = s.rxAvailable ∧ t.rxCrcValid = s.rxCrcValid

/-- The transmit-side state is the same (R65, R75). -/
abbrev State.SameTransmitSide (s t : State) : Prop :=
  t.txBuf = s.txBuf ∧ t.txLen = s.txLen ∧ t.txCursor = s.txCursor

/-- The identity registers are the same (R9). -/
abbrev State.SameIdentity (s t : State) : Prop :=
  t.band = s.band ∧ t.groupId = s.groupId ∧ t.nodeId = s.nodeId ∧ t.constructed = s.constructed

/-! ## Runs -/

/-- `k` byte-ready events with no other step between them. -/
def irqEvents : Nat → State → Outcome
  | 0, s => .next s
  | k + 1, s =>
    match exec .irq s with
    | .next t => irqEvents k t
    | .fault r => .fault r
    | .refused r => .refused r

/-- A run has ended (R118), as far as the state shows it: no operation in progress, nothing reserved to happen. -/
abbrev State.RunEnded (s : State) : Prop := s.hostPhase = .none ∧ s.env.turns = []

/-! ## Named premises (R120) -/

/-- `AfterReset`. -/
def State.afterReset : State := State.reset

/-- `Constructed(b, g, n)`; the last field is the model's record that one operation has returned. -/
def State.constructedWith (b : Band) (g : Byte) (n : NodeId) : State :=
  { State.reset with band := b, groupId := g, nodeId := n, constructed := true, returns := [.noResult] }

/-- `Begun(b, g, n)`. -/
def State.begun (b : Band) (g : Byte) (n : NodeId) : State :=
  { State.constructedWith b g n with trace := [.config b g], returns := [.noResult, .noResult] }

/-- `ArmedListening(b, g, n)`. -/
def State.armedListening (b : Band) (g : Byte) (n : NodeId) : State :=
  { State.begun b g n with
    linkState := .listening
    trace := [.config b g, .rxOn]
    returns := [.noResult, .noResult, .polled none] }

/-- `NothingInFlight`. -/
abbrev State.NothingInFlight (s : State) : Prop :=
  s.hostPhase = .none ∧ (s.linkState = .idle ∨ s.linkState = .listening) ∧ s.rxAvailable = false

/-! ## Transitions (R86, R87) -/

/-- Every way `linkState` may change in one step, with the word or the step that may do it: R87's list, and the reset
input. -/
inductive LinkChange : Fetched → LinkState → LinkState → Prop where
  /-- `Idle` by `CONSTRUCT`, `BEGIN`, `CAN_TRANSMIT`. -/
  | toIdle (c : Byte) (rest : List Byte) (s' : State) (l : LinkState) (h : c.toNat < 3) :
      LinkChange (.word .host (c :: rest) s') l .idle
  /-- `Listening` only from `Idle` and `ReceiveComplete` and only by `POLL_FRAME`. -/
  | listen (rest : List Byte) (s' : State) (l : LinkState) (h : l = .idle ∨ l = .receiveComplete) :
      LinkChange (.word .host (4 :: rest) s') l .listening
  /-- `Receiving` only from `Listening` and only by `IRQ`. -/
  | firstByte (s' : State) : LinkChange (.word .irq [1] s') .listening .receiving
  /-- `ReceiveComplete` only from `Receiving` and only by `IRQ`. -/
  | sealed (s' : State) : LinkChange (.word .irq [1] s') .receiving .receiveComplete
  /-- Transmit completion. -/
  | sent (s' : State) : LinkChange (.word .irq [1] s') .sending .idle
  /-- `Sending` only by the arming step of `WRITE_FRAME`. -/
  | armed (s' : State) (l : LinkState) : LinkChange (.proceed s') l .sending
  /-- The reset input. -/
  | resetInput (s' : State) (l : LinkState) : LinkChange (.reset s') l .idle

end Sys2Proof.Machine
end

