-- ==== Sys2Proof/Certificates/Slice0/Obligations.lean ====
section
/-!
DEFINITION. The statements for the provers. Each docstring names the rules of spec/ it formalises; log <n> is
notes/assumptions/<n>.md.
-/

open Sys2Proof Sys2Proof.Machine

/-! ## Reset and the step -/

/-- R105: the reset input, from any state, also while the host is held, leaves every element at the value in the column
"after hardware reset" of R26. The parameters and what stands outside the block are not the block's to reset. -/
def Obligations.HardwareResetValues : Prop :=
  ∀ s ts, s.env.turns = .reset :: ts →
    step s = .next { State.reset with params := s.params, env := { s.env with turns := ts } } ∧
    State.reset.linkState = .idle ∧ State.reset.rxCursor = 0 ∧ State.reset.rxLen = 0 ∧ State.reset.rxCrc = 0xFFFF ∧
    State.reset.rxAvailable = false ∧ State.reset.rxCrcValid = false ∧ State.reset.txLen = 0 ∧
    State.reset.txCursor = 0 ∧ State.reset.hostPhase = .none ∧ State.reset.trace = []

/-- The three invariants hold right after reset (R27, R6). -/
def Obligations.InvariantsHoldAtReset : Prop :=
  State.reset.Inv ∧ State.reset.CrcInv ∧ State.reset.ModeInv

/-- A step runs the decoded instruction: whichever port the next input stands on, when its bytes decode to `i` the step is
`exec i` at the state with that input taken (R7, R8; log 1). -/
def Obligations.StepRunsDecodedInstruction : Prop :=
  ∀ (s : State) (ts : List Turn) (w : List Byte) (i : Instr) (rest : List Byte), i.WellFormed →
    (∀ cs, s.env.turns = .host :: ts → s.hostPhase = .none → s.env.hostCalls = w :: cs → decode .host w = .ok i rest →
      step s = exec i { s with env := { s.env with turns := ts, hostCalls := cs } }) ∧
    (s.env.turns = .irq :: ts → step s = exec .irq { s with env := { s.env with turns := ts } }) ∧
    (s.env.turns = .exchange w :: ts → decode .treq w = .ok i rest →
      step s = exec i { s with env := { s.env with turns := ts } }) ∧
    (s.env.turns = .header w :: ts → decode .header w = .ok i rest →
      step s = exec i { s with env := { s.env with turns := ts } }) ∧
    (s.env.turns = .frame w :: ts → decode .frame w = .ok i rest →
      step s = exec i { s with env := { s.env with turns := ts } })

/-- With no turn left, and at a turn of a host that has nothing to call, no agent has a step: the state stays (R105; log 1). -/
def Obligations.NothingToDoLeavesTheState : Prop :=
  (∀ s : State, s.env.turns = [] → step s = .next s) ∧
  (∀ (s : State) (ts : List Turn), s.env.turns = .host :: ts → s.hostPhase = .none → s.env.hostCalls = [] →
    step s = .next { s with env := { s.env with turns := ts } })

/-! ## Encodings -/

/-- Some words written out from R46, R49, R51 and the running example of 95_test_vectors.md S2. -/
def Obligations.KnownWordsDecode : Prop :=
  decode .host [0x00, 0x00, 0xD4, 0x05] = .ok (.construct 0 212 5) [] ∧
  decode .host [0x03, 0x09, 0x00, 0x02, 0x68, 0x69] = .ok (.writeFrame 9 false [0x68, 0x69]) [] ∧
  decode .host [0x04] = .ok .pollFrame [] ∧
  decode .irq [0x01] = .ok .irq [] ∧
  decode .treq [0x05, 0xAA] = .ok (.tFifoWrite 0xAA) [] ∧
  decode .header [0x49, 0x42] = .ok (.header 9 5 2) [] ∧
  decode .frame [0xAA, 0xAA, 0xAA, 0x2D, 0xD4, 0x49, 0x42, 0x68, 0x69, 0x82, 0x59, 0xAA, 0xAA, 0xAA] =
    .ok (.frame 212 9 5 [0x68, 0x69] 0x8259) []

/-- Decoding the encoding of any well-formed instruction gives it back, whatever bytes follow it. -/
def Obligations.DecodeInvertsEncode : Prop :=
  ∀ (i : Instr) (rest : List Byte), i.WellFormed → decode i.port (encode i ++ rest) = .ok i rest

/-- Every instruction the decoder gives is well-formed and belongs to the port it was read on. -/
def Obligations.DecodedInstructionIsWellFormed : Prop :=
  ∀ (p : Port) (w rest : List Byte) (i : Instr), decode p w = .ok i rest → i.WellFormed ∧ i.port = p

/-- R59, R60: the fields of the packed header, the decode formulas, and that the two functions are inverse bijections. -/
def Obligations.HeaderCodecIsBijective : Prop :=
  (∀ (d s : NodeId) (l : PayloadLen),
    (headerWord d s l).toNat = d.toNat * 2048 + s.toNat * 64 + l.toNat ∧
    (packHeader d s l).1.toNat = (headerWord d s l).toNat / 256 ∧
    (packHeader d s l).2.toNat = (headerWord d s l).toNat % 256 ∧
    decodeHeader (packHeader d s l).1 (packHeader d s l).2 = { destination := d, sender := s, length := l }) ∧
  (∀ b0 b1 : Byte,
    (decodeHeader b0 b1).destination.toNat = b0.toNat / 8 ∧
    (decodeHeader b0 b1).sender.toNat = b0.toNat % 8 * 4 + b1.toNat / 64 ∧
    (decodeHeader b0 b1).length.toNat = b1.toNat % 64 ∧
    packHeader (decodeHeader b0 b1).destination (decodeHeader b0 b1).sender (decodeHeader b0 b1).length = (b0, b1))

/-- R56's corner cases: for a fixed byte the update is a bijection of the accumulator, for a fixed accumulator it is
injective in the byte. -/
def Obligations.CrcUpdateIsBijective : Prop :=
  (∀ b : Byte, Function.Bijective (fun c => crc16Update c b)) ∧
  (∀ c : Word16, Function.Injective (fun b => crc16Update c b))

/-- R58: two byte sequences of equal length that differ in exactly one byte have different CRCs, so a frame with one
changed header or payload byte (and its old trailer) fails `validate`. -/
def Obligations.CrcDetectsOneChangedByte : Prop :=
  ∀ (front back : List Byte) (b b' : Byte), b ≠ b' →
    crc16 (front ++ b :: back) ≠ crc16 (front ++ b' :: back) ∧
    validate (crc16 (front ++ b' :: back)) (hiByte (crc16 (front ++ b :: back))) (loByte (crc16 (front ++ b :: back)))
      = false

/-- R63: the validator is the comparison of the running CRC with the trailer, high byte first. -/
def Obligations.ValidateComparesTrailer : Prop :=
  (∀ (c : Word16) (hi lo : Byte), validate c hi lo = true ↔ c.toNat = hi.toNat * 256 + lo.toNat) ∧
  (∀ c : Word16, validate c (hiByte c) (loByte c) = true)

/-- R61: the frame builder's byte list, with the CRC over the two header bytes and the kept payload, its length, and the
cap at `MAX_SIGNAL`. -/
def Obligations.FrameBuilderLayout : Prop :=
  ∀ (maxSignal : Nat) (groupId : Byte) (destination : NodeId) (sender : Option NodeId) (payload : List Byte),
    ∃ (hh hl : Byte) (c : Word16) (full : List Byte),
      (hh, hl) = packHeader destination (sender.getD 0) (BitVec.ofNat 6 (min payload.length 63)) ∧
      c = crc16 (hh :: hl :: payload.take 63) ∧
      full = [0xAA, 0xAA, 0xAA, 0x2D, groupId, hh, hl] ++ payload.take 63 ++ [hiByte c, loByte c, 0xAA, 0xAA, 0xAA] ∧
      full.length = 12 + min payload.length 63 ∧
      encodeFrame maxSignal groupId destination sender payload = full.take (min (12 + min payload.length 63) maxSignal) ∧
      (encodeFrame maxSignal groupId destination sender payload).length = min (12 + min payload.length 63) maxSignal

/-- R62: only the first 63 bytes of a payload are used, and the header of an oversize send says 63. -/
def Obligations.OversizePayloadIsTruncated : Prop :=
  ∀ (maxSignal : Nat) (groupId : Byte) (destination : NodeId) (sender : Option NodeId) (payload : List Byte),
    encodeFrame maxSignal groupId destination sender payload =
      encodeFrame maxSignal groupId destination sender (payload.take 63) ∧
    (63 ≤ payload.length → 7 ≤ maxSignal →
      ∃ b, (encodeFrame maxSignal groupId destination sender payload)[6]? = some b ∧ b.toNat % 64 = 63)

/-! ## Host operations -/

/-- R80: `CONSTRUCT` with a member of the band enumeration and a legal node id loads the identity registers, puts every other element to its reset value,
leaves the buffers and the request trace, and issues no request. -/
def Obligations.ConstructLoadsIdentity : Prop :=
  ∀ (s : State) (b : Band) (g : Byte) (n : NodeId), s.hostPhase = .none → b < s.params.bandCount → n ≠ 0 →
    exec (.construct b g n) s = .next
      { s with
        band := b, groupId := g, nodeId := n, constructed := true
        linkState := .idle, rxCursor := 0, rxLen := 0, rxCrc := 0xFFFF, rxAvailable := false, rxCrcValid := false
        txLen := 0, txCursor := 0, hostPhase := .none
        returns := s.returns ++ [.noResult] }

/-- The model's choice (log 10): `CONSTRUCT` with `nodeId = 0`, outside the legal range, runs as R80 says of the others
(93_implementation_defined.md U3 allows it). Besides this statement only `ConstructReducesBandNumber` says that it runs. -/
def Obligations.ConstructRunsNodeZero : Prop :=
  ∀ (s : State) (b : Band) (g : Byte), s.hostPhase = .none → b < s.params.bandCount →
    ∃ t, exec (.construct b g 0) s = .next t ∧ t.band = b ∧ t.groupId = g ∧ t.nodeId = 0 ∧ t.constructed = true ∧
      t.linkState = .idle ∧ t.rxBuf = s.rxBuf ∧ t.txBuf = s.txBuf ∧ t.trace = s.trace ∧ t.params = s.params ∧ t.env = s.env

/-- The model's choices (log 8, log 10): a number that names no member of the band enumeration is taken modulo the number of
members, and `CONSTRUCT` runs with it as with the member it is taken for; and it runs for every node id, 0 among them. -/
def Obligations.ConstructReducesBandNumber : Prop :=
  ∀ (s : State) (b : Band) (g : Byte) (n : NodeId), s.hostPhase = .none →
    ∃ t, exec (.construct b g n) s = .next t ∧ exec (.construct (b % s.params.bandCount) g n) s = .next t ∧
      t.band = b % s.params.bandCount ∧ (1 ≤ s.params.bandCount → t.band < t.params.bandCount)

/-- R81: `BEGIN` issues the one request `CONFIG` with `band` and `groupId`, sets `Idle`, and changes no other state; before
`CONSTRUCT` it is refused. -/
def Obligations.BeginConfiguresAndIdles : Prop :=
  ∀ s : State, s.hostPhase = .none →
    (s.constructed = true → exec .beginOp s = .next
      { s with
        linkState := .idle
        trace := s.trace ++ [.config s.band s.groupId]
        returns := s.returns ++ [.noResult] }) ∧
    (s.constructed = false → exec .beginOp s = .refused .identityUnset)

/-- R108, U1: before `CONSTRUCT` the operations that need the identity registers are refused, by their own name. -/
def Obligations.RefusedBeforeConstruct : Prop :=
  ∀ (s : State) (d : NodeId) (a : Bool) (p : List Byte), s.constructed = false → s.hostPhase = .none →
    exec .beginOp s = .refused .identityUnset ∧ exec (.writeFrame d a p) s = .refused .identityUnset ∧
    exec .pollFrame s = .refused .identityUnset

/-- R82: `CAN_TRANSMIT` in any state; `s.carrierReply` is the draw. A busy channel changes no state but the trace and the
answer; a clear one idles the transceiver, drains its FIFO and forces `Idle`. -/
def Obligations.CanTransmitBusyAndClear : Prop :=
  ∀ s : State, s.hostPhase = .none →
    (s.carrierReply = true → exec .canTransmit s = .next
      { s with
        trace := s.trace ++ [.statusRead true]
        returns := s.returns ++ [.clear false]
        raised := s.raised ++ [.channelBusy]
        env := s.env.popStatus }) ∧
    (s.carrierReply = false → exec .canTransmit s = .next
      { s with
        linkState := .idle
        trace := s.trace ++ [.statusRead false, .idle, .fifoDrain]
        returns := s.returns ++ [.clear true]
        env := s.env.popStatus })

/-- R83: the call of `WRITE_FRAME` records its operands and does nothing else; the wait is left as soon as `linkState` is
not `Receiving`; while it is, the host is held; and only with `SPIN_TIMEOUT_ENABLE` may the wait then end with
`StaleReceptionStall` and no other state change. Where the wait may not give up (the parameter false, no wait in progress, or
`linkState` not `Receiving`) there is no such step, and the turn that stands for it changes nothing (log 20). -/
def Obligations.WriteFrameWaitPhase : Prop :=
  ∀ (s : State) (d : NodeId) (a : Bool) (p : List Byte) (ts : List Turn),
    (s.hostPhase = .none → s.constructed = true →
      exec (.writeFrame d a p) s = .next { s with hostPhase := .writeWaiting d a p }) ∧
    (s.hostPhase = .writeWaiting d a p → s.env.turns = .host :: ts → s.linkState ≠ .receiving →
      step s = .next { s with hostPhase := .writeArming d a p, env := { s.env with turns := ts } }) ∧
    (s.hostPhase = .writeWaiting d a p → s.env.turns = .host :: ts → s.linkState = .receiving →
      step s = .next { s with env := { s.env with turns := ts } }) ∧
    (s.hostPhase = .writeWaiting d a p → s.env.turns = .timeout :: ts → s.linkState = .receiving →
      s.params.spinTimeoutEnable = true →
      ∃ r, step s = .next
        { s with
          hostPhase := .none
          returns := s.returns ++ [.wStatus .staleReceptionStall]
          raised := r
          env := { s.env with turns := ts } }) ∧
    (s.env.turns = .timeout :: ts →
      s.params.spinTimeoutEnable = false ∨ (∀ d' a' p', s.hostPhase ≠ .writeWaiting d' a' p') ∨ s.linkState ≠ .receiving →
      step s = .next { s with env := { s.env with turns := ts } })

/-- R84: the arming step. On carrier it returns `ChannelBusy` and changes nothing else; on a clear channel it stores the
frame, sets `txLen`, `txCursor`, `Sending` and issues `TX_ON`, whatever `linkState` was. -/
def Obligations.WriteFrameArmingStep : Prop :=
  ∀ (s : State) (d : NodeId) (a : Bool) (p : List Byte) (ts : List Turn),
    s.hostPhase = .writeArming d a p → s.env.turns = .host :: ts →
    (s.carrierReply = true → step s = .next
      { s with
        hostPhase := .none
        trace := s.trace ++ [.statusRead true]
        returns := s.returns ++ [.wStatus .channelBusy]
        raised := s.raised ++ [.channelBusy]
        env := { s.env with turns := ts }.popStatus }) ∧
    (s.carrierReply = false →
      ∀ bytes, bytes = encodeFrame s.params.maxSignal s.groupId d (if a then none else some s.nodeId) p →
      step s = .next
        { s with
          hostPhase := .none
          txBuf := s.txBuf.writeAll 0 bytes
          txLen := BitVec.ofNat 7 bytes.length
          txCursor := 0
          linkState := .sending
          trace := s.trace ++ [.statusRead false, .txOn]
          returns := s.returns ++ [.wStatus .ok]
          env := { s.env with turns := ts }.popStatus })

/-- R19, R84: the arming step writes cells 0 to `txLen - 1` of `txBuf` with the frame and leaves every other cell of either
buffer as it was. -/
def Obligations.ArmingStoresOnlyTheFrame : Prop :=
  ∀ (s t : State) (d : NodeId) (a : Bool) (p : List Byte) (ts : List Turn),
    s.params.Valid → s.hostPhase = .writeArming d a p → s.env.turns = .host :: ts → s.carrierReply = false →
    step s = .next t →
    t.txLen.toNat = (s.frameToSend d a p).length ∧ 12 ≤ t.txLen.toNat ∧ t.txLen.toNat ≤ s.params.maxSignal ∧
    (∀ i < t.txLen.toNat, some (t.readTx i) = (s.frameToSend d a p)[i]?) ∧
    (∀ i, t.txLen.toNat ≤ i → t.readTx i = s.readTx i) ∧
    (∀ i, t.readRx i = s.readRx i)

/-- R85 with R79: `POLL_FRAME` in each link state: it arms listening from `Idle`; it returns an addressed, intact frame by
value; it discards any other sealed frame; it has no effect otherwise. -/
def Obligations.PollFrameInEveryState : Prop :=
  ∀ s : State, s.hostPhase = .none → s.constructed = true →
    (s.linkState = .idle → exec .pollFrame s = .next
      { s with
        rxCursor := 0, rxLen := 0, rxCrc := 0xFFFF, rxAvailable := false, rxCrcValid := false, linkState := .listening
        trace := s.trace ++ [.rxOn]
        returns := s.returns ++ [.polled none] }) ∧
    (∀ h, s.linkState = .receiveComplete → s.rxAvailable = true → h = decodeHeader (s.readRx 0) (s.readRx 1) →
      (h.destination = s.nodeId ∨ h.destination = 0) → s.rxCrcValid = true →
      h.length.toNat + 2 ≤ s.params.maxPacket →
      exec .pollFrame s = .next
        { s with
          rxCursor := 0, rxLen := 0, rxCrc := 0xFFFF, rxAvailable := false, rxCrcValid := false, linkState := .listening
          trace := s.trace ++ [.rxOn]
          returns := s.returns ++ [.polled (some
            { sender := h.sender, destination := h.destination,
              payload := (List.range h.length.toNat).map (fun k => s.readRx (2 + k)) })] }) ∧
    (∀ h, s.linkState = .receiveComplete → s.rxAvailable = true → h = decodeHeader (s.readRx 0) (s.readRx 1) →
      ¬ ((h.destination = s.nodeId ∨ h.destination = 0) ∧ s.rxCrcValid = true) →
      exec .pollFrame s = .next
        { s with
          rxCursor := 0, rxLen := 0, rxCrc := 0xFFFF, rxAvailable := false, rxCrcValid := false, linkState := .listening
          trace := s.trace ++ [.rxOn]
          returns := s.returns ++ [.polled none]
          raised := s.raised ++ [
            if ¬ (h.destination = s.nodeId ∨ h.destination = 0) then .misaddressedFrame
            else if s.rxLen.toNat + 4 > s.params.maxPacket then .frameTruncationOverflow
            else .crcMismatch] }) ∧
    (s.linkState = .listening ∨ s.linkState = .receiving ∨ s.linkState = .sending ∨
        s.linkState = .receiveComplete ∧ s.rxAvailable = false →
      exec .pollFrame s = .next { s with returns := s.returns ++ [.polled none] })

/-- R96: a sealed frame whose destination is neither the node's own nor broadcast is dropped and labelled, whatever its
CRC. -/
def Obligations.MisaddressedFrameIsDropped : Prop :=
  ∀ s : State, s.hostPhase = .none → s.constructed = true → s.linkState = .receiveComplete → s.rxAvailable = true →
    (decodeHeader (s.readRx 0) (s.readRx 1)).destination ≠ s.nodeId →
    (decodeHeader (s.readRx 0) (s.readRx 1)).destination ≠ 0 →
    ∃ t, exec .pollFrame s = .next t ∧ t.returns = s.returns ++ [.polled none] ∧
      t.raised = s.raised ++ [.misaddressedFrame] ∧ t.linkState = .listening ∧ t.FreshReception ∧
      t.trace = s.trace ++ [.rxOn]

/-- R95, R97: an addressed frame with `rxCrcValid = 0` is dropped: as `CrcMismatch` when it has its natural length, as
`FrameTruncationOverflow` when the capacity guard cut it. -/
def Obligations.DamagedFrameIsDropped : Prop :=
  ∀ s : State, s.hostPhase = .none → s.constructed = true → s.linkState = .receiveComplete → s.rxAvailable = true →
    ((decodeHeader (s.readRx 0) (s.readRx 1)).destination = s.nodeId ∨
      (decodeHeader (s.readRx 0) (s.readRx 1)).destination = 0) →
    s.rxCrcValid = false →
    ∃ t, exec .pollFrame s = .next t ∧ t.returns = s.returns ++ [.polled none] ∧ t.linkState = .listening ∧
      t.FreshReception ∧ t.trace = s.trace ++ [.rxOn] ∧
      (s.rxLen.toNat + 4 ≤ s.params.maxPacket → t.raised = s.raised ++ [.crcMismatch]) ∧
      (s.params.maxPacket < s.rxLen.toNat + 4 → t.raised = s.raised ++ [.frameTruncationOverflow])

/-- R52, R51: the reserved host codes decode as reserved and are refused. A byte beyond the 3-bit host port and the request codes
9 to 15, which are never issued, with every byte beyond the 4-bit request port, are rejected by name (log 3), and `step` refuses
a turn that presents one. -/
def Obligations.ReservedHostCodesRefused : Prop :=
  (∀ s : State, exec .reserved5 s = .refused (.reservedHostCode 5) ∧ exec .reserved6 s = .refused (.reservedHostCode 6) ∧
    exec .reserved7 s = .refused (.reservedHostCode 7)) ∧
  (∀ rest, decode .host (5 :: rest) = .ok .reserved5 rest ∧ decode .host (6 :: rest) = .ok .reserved6 rest ∧
    decode .host (7 :: rest) = .ok .reserved7 rest) ∧
  (∀ (b : Byte) (rest : List Byte),
    (8 ≤ b.toNat → decode .host (b :: rest) = .error .beyondHostPort) ∧
    (9 ≤ b.toNat → decode .treq (b :: rest) = .error .neverIssued)) ∧
  (∀ (s : State) (ts : List Turn) (b : Byte) (rest : List Byte),
    (∀ cs, s.env.turns = .host :: ts → s.hostPhase = .none → s.env.hostCalls = (b :: rest) :: cs → 8 ≤ b.toNat →
      step s = .refused (.undecodable .beyondHostPort)) ∧
    (s.env.turns = .exchange (b :: rest) :: ts → 9 ≤ b.toNat → step s = .refused (.undecodable .neverIssued)))

/-- R22, R119: while a `WRITE_FRAME` is in progress the host can start no operation (log 15: `exec` refuses it), and the
step never takes one of its calls. -/
def Obligations.HeldHostStartsNothing : Prop :=
  ∀ s : State, s.hostPhase ≠ .none →
    (∀ b g n, exec (.construct b g n) s = .refused .hostHeld) ∧
    exec .beginOp s = .refused .hostHeld ∧ exec .canTransmit s = .refused .hostHeld ∧
    (∀ d a p, exec (.writeFrame d a p) s = .refused .hostHeld) ∧ exec .pollFrame s = .refused .hostHeld ∧
    (∀ t, step s = .next t → t.env.hostCalls = s.env.hostCalls)

/-! ## The receive sequencer -/

/-- R74 and the `Idle` arm of R89: in `ReceiveComplete` and in `Idle` an event changes no state and issues no request. -/
def Obligations.EventIsNoOpWhenInactive : Prop :=
  ∀ s : State, s.linkState = .idle ∨ s.linkState = .receiveComplete → exec .irq s = .next s

/-- R66 to R68, R71: a header byte. The event that finds `Listening` is the first byte of the frame. -/
def Obligations.HeaderByteIsStored : Prop :=
  ∀ s : State, s.params.Valid → s.linkState = .listening ∨ s.linkState = .receiving → s.rxCursor.toNat < 2 →
    exec .irq s = .next
      { s with
        linkState := .receiving
        rxBuf := s.rxBuf.write s.rxCursor.toNat s.fifoReply
        rxCrc := crc16Update s.rxCrc s.fifoReply
        rxLen := if s.rxCursor.toNat = 1 then s.fifoReply.extractLsb' 0 6 else s.rxLen
        rxCursor := s.rxCursor + 1#7
        trace := s.trace ++ [.fifoRead s.fifoReply]
        env := s.env.popFifo }

/-- R69, R71: a payload byte, where the capacity guard does not seal. -/
def Obligations.PayloadByteIsStored : Prop :=
  ∀ s : State, s.params.Valid → s.linkState = .listening ∨ s.linkState = .receiving → 2 ≤ s.rxCursor.toNat →
    s.rxCursor.toNat ≤ s.rxLen.toNat + 1 → s.rxCursor.toNat + 1 < s.params.maxPacket →
    exec .irq s = .next
      { s with
        linkState := .receiving
        rxBuf := s.rxBuf.write s.rxCursor.toNat s.fifoReply
        rxCrc := crc16Update s.rxCrc s.fifoReply
        rxCursor := s.rxCursor + 1#7
        trace := s.trace ++ [.fifoRead s.fifoReply]
        env := s.env.popFifo }

/-- R70, R71: the first trailer byte is stored and not accumulated, where the capacity guard does not seal. -/
def Obligations.TrailerByteIsNotAccumulated : Prop :=
  ∀ s : State, s.params.Valid → s.linkState = .listening ∨ s.linkState = .receiving →
    s.rxCursor.toNat = s.rxLen.toNat + 2 → s.rxCursor.toNat + 1 < s.params.maxPacket →
    exec .irq s = .next
      { s with
        linkState := .receiving
        rxBuf := s.rxBuf.write s.rxCursor.toNat s.fifoReply
        rxCursor := s.rxCursor + 1#7
        trace := s.trace ++ [.fifoRead s.fifoReply]
        env := s.env.popFifo }

/-- R72, R73: the last trailer byte seals the frame at its natural length: idle, drain, the CRC compared with the
trailer, the flag set, the cursor reset. -/
def Obligations.LastByteSealsTheFrame : Prop :=
  ∀ s : State, s.params.Valid → s.linkState = .listening ∨ s.linkState = .receiving →
    s.rxCursor.toNat = s.rxLen.toNat + 3 → s.rxCursor.toNat < s.params.maxPacket →
    exec .irq s = .next
      { s with
        linkState := .receiveComplete
        rxBuf := s.rxBuf.write s.rxCursor.toNat s.fifoReply
        rxCursor := 0
        rxAvailable := true
        rxCrcValid := s.rxCrc == s.readRx (s.rxLen.toNat + 2) ++ s.fifoReply
        trace := s.trace ++ [.fifoRead s.fifoReply, .idle, .fifoDrain]
        env := s.env.popFifo }

/-- R72, R73, R97: the byte that fills the buffer before the frame's natural length seals it with `rxCrcValid = 0`. -/
def Obligations.CapacityGuardSealsInvalid : Prop :=
  ∀ s : State, s.params.Valid → s.linkState = .listening ∨ s.linkState = .receiving →
    s.rxCursor.toNat + 1 = s.params.maxPacket → s.params.maxPacket < s.rxLen.toNat + 4 →
    exec .irq s = .next
      { s with
        linkState := .receiveComplete
        rxBuf := s.rxBuf.write s.rxCursor.toNat s.fifoReply
        rxCrc := if s.rxCursor.toNat < s.rxLen.toNat + 2 then crc16Update s.rxCrc s.fifoReply else s.rxCrc
        rxCursor := 0
        rxAvailable := true
        rxCrcValid := false
        trace := s.trace ++ [.fifoRead s.fifoReply, .idle, .fifoDrain]
        env := s.env.popFifo }

/-- The bytes an event stores (R65, R71): one cell of `rxBuf`, the one at the cursor, in `Listening` and `Receiving`; every
other cell of either buffer reads as before, and in the other states every cell does. -/
def Obligations.EventStoresOneByte : Prop :=
  ∀ s t : State, exec .irq s = .next t →
    (s.linkState = .listening ∨ s.linkState = .receiving →
      t.readRx s.rxCursor.toNat = s.fifoReply ∧ ∀ a, a ≠ s.rxCursor.toNat → t.readRx a = s.readRx a) ∧
    (¬ (s.linkState = .listening ∨ s.linkState = .receiving) → ∀ a, t.readRx a = s.readRx a) ∧
    (∀ a, t.readTx a = s.readTx a)

/-- No other instruction stores a byte: every cell of both buffers reads as before (R12, R19: the buffers are written by
the receive step and the arming step only). -/
def Obligations.OtherInstructionsStoreNothing : Prop :=
  ∀ (i : Instr) (s t : State), i ≠ .irq → exec i s = .next t →
    (∀ a, t.readRx a = s.readRx a) ∧ (∀ a, t.readTx a = s.readTx a)

/-! ## The transmit sequencer -/

/-- R76: the push arm. -/
def Obligations.TransmitPushesNextByte : Prop :=
  ∀ s : State, s.linkState = .sending → s.txCursor.toNat < s.txLen.toNat → s.txCursor.toNat < s.params.maxSignal →
    exec .irq s = .next
      { s with
        txCursor := s.txCursor + 1#7
        trace := s.trace ++ [.fifoWrite (s.readTx s.txCursor.toNat)] }

/-- R77: the completion arm: idle first, then the pad byte, then `Idle`. -/
def Obligations.TransmitCompletesToIdle : Prop :=
  ∀ s : State, s.linkState = .sending → ¬ (s.txCursor.toNat < s.txLen.toNat ∧ s.txCursor.toNat < s.params.maxSignal) →
    exec .irq s = .next
      { s with
        linkState := .idle
        trace := s.trace ++ [.idle, .fifoWrite 0xAA] }

/-- R78: the counting law. From an armed transmission of `N` bytes, the first `N` events push `txBuf[0]` to `txBuf[N-1]` in
order, the next issues `IDLE` and the pad byte and returns to `Idle`, and any further event does nothing. -/
def Obligations.TransmissionDrainsExactly : Prop :=
  ∀ s : State, s.linkState = .sending → s.txCursor = 0 → s.txLen.toNat ≤ s.params.maxSignal →
    (∀ k ≤ s.txLen.toNat, irqEvents k s = .next
      { s with
        txCursor := BitVec.ofNat 7 k
        trace := s.trace ++ (List.range k).map (fun j => .fifoWrite (s.readTx j)) }) ∧
    (∀ extra, irqEvents (s.txLen.toNat + 1 + extra) s = .next
      { s with
        linkState := .idle
        txCursor := s.txLen
        trace := s.trace ++ (List.range s.txLen.toNat).map (fun j => .fifoWrite (s.readTx j)) ++
          [.idle, .fifoWrite 0xAA] })

/-- R36, R78: what the transceiver is handed between the `TX_ON` of an arming step and the next `IDLE` is the frame the
builder made, byte for byte. -/
def Obligations.FrameIsHandedWhole : Prop :=
  ∀ (s t : State) (d : NodeId) (a : Bool) (p : List Byte) (ts : List Turn),
    s.params.Valid → s.hostPhase = .writeArming d a p → s.env.turns = .host :: ts → s.carrierReply = false →
    step s = .next t →
    ∃ u, irqEvents (t.txLen.toNat + 1) t = .next u ∧ u.linkState = .idle ∧
      frameHanded u.trace = encodeFrame s.params.maxSignal s.groupId d (if a then none else some s.nodeId) p

/-! ## The transceiver port and the wire -/

/-- R34, R36: each request without a used reply, as one exchange, appends its one entry to the trace and changes nothing
else (log 12). `CONFIG` carries `band` and `groupId`; before any `CONSTRUCT` what it carries is free (log 6). -/
def Obligations.ExchangeAppendsOneEntry : Prop :=
  ∀ (s : State) (b : Byte),
    exec .tIdle s = .next { s with trace := s.trace ++ [.idle] } ∧
    exec .tSleep s = .next { s with trace := s.trace ++ [.sleep] } ∧
    exec .tRxOn s = .next { s with trace := s.trace ++ [.rxOn] } ∧
    exec .tTxOn s = .next { s with trace := s.trace ++ [.txOn] } ∧
    exec (.tFifoWrite b) s = .next { s with trace := s.trace ++ [.fifoWrite b] } ∧
    exec .tFifoDrain s = .next { s with trace := s.trace ++ [.fifoDrain] } ∧
    (s.constructed = true → exec .tConfig s = .next { s with trace := s.trace ++ [.config s.band s.groupId] }) ∧
    (s.constructed = false → ∃ band groupId, exec .tConfig s = .next { s with trace := s.trace ++ [.config band groupId] })

/-- R35, R36: the two requests with a used reply record it in the trace and use up one draw: the first listed reply when
there is one; otherwise the reply is free and nothing is stated of its value. -/
def Obligations.ReadExchangeRecordsReply : Prop :=
  ∀ s : State,
    (∃ b, exec .tFifoRead s = .next { s with trace := s.trace ++ [.fifoRead b], env := s.env.popFifo } ∧
      ∀ b' bs, s.env.fifoDraws = b' :: bs → b = b' ∧ s.env.popFifo = { s.env with fifoDraws := bs }) ∧
    (∃ c, exec .tStatusRead s = .next { s with trace := s.trace ++ [.statusRead c], env := s.env.popStatus } ∧
      ∀ c' cs, s.env.statusDraws = c' :: cs → c = c' ∧ s.env.popStatus = { s.env with statusDraws := cs })

/-- R37: the mapping to the 16-bit primitive, with numerals that meet the constraints: each request is one or more calls, the
call of its numeral for the seven that have one, the sequence given for `FIFO_DRAIN` and for `CONFIG`; a `FIFO_WRITE` command
carries its byte in the low bits (PRESUMED, log 17); two different requests of one call without data have different commands; the
two replies are read as R37 says. -/
def Obligations.CommandsCarryTheirRequests : Prop :=
  ∀ n : Numerals, n.Valid →
    (∀ r : Request, r.calls n ≠ []) ∧
    (Request.calls n .idle = [n.tcmdIdle] ∧ Request.calls n .sleep = [n.tcmdSleep] ∧
      Request.calls n .rxOn = [n.tcmdRxOn] ∧ Request.calls n .txOn = [n.tcmdTxOn] ∧
      (∀ b, Request.calls n (.fifoRead b) = [n.tcmdFifoRead]) ∧ (∀ c, Request.calls n (.statusRead c) = [n.tcmdStatusRead]) ∧
      Request.calls n .fifoDrain = n.fifoDrainCalls ∧ ∀ b g, Request.calls n (.config b g) = n.configCalls b g) ∧
    (∀ b, ∃ w, Request.calls n (.fifoWrite b) = [w] ∧ w.extractLsb' 0 8 = b ∧
      w.extractLsb' 8 8 = n.tcmdFifoWrite.extractLsb' 8 8) ∧
    (∀ r r' : Request, r.written? = none → r'.written? = none → r.command? n ≠ none → r.command? n = r'.command? n →
      r.code = r'.code) ∧
    (∀ t t' : List Request, commandsOfTrace n (t ++ t') = commandsOfTrace n t ++ commandsOfTrace n t') ∧
    (∀ reply, (fifoByteOfReply reply).toNat = reply.toNat % 256) ∧
    (∀ reply, carrierOfReply n reply = true ↔ ∃ k : Fin 16, n.carrierMask = 1#16 <<< k.val ∧ reply.getLsbD k = true)

/-- The model's choice (log 13): a `HEADER` or a `FRAME` presented to the model is bytes that arrive at the transceiver: they
are the coming replies of `FIFO_READ`, from `header_hi` to `crc_lo` (R44, R47), and nothing of the block changes. -/
def Obligations.WireDataBecomesReplies : Prop :=
  ∀ (s : State) (g : Byte) (d n : NodeId) (l : PayloadLen) (p : List Byte) (c : Word16),
    exec (.header d n l) s = .next
      { s with env := { s.env with fifoDraws := s.env.fifoDraws ++ [(packHeader d n l).1, (packHeader d n l).2] } } ∧
    (p.length ≤ 63 → ∃ stored, encode (.frame g d n p c) = [0xAA, 0xAA, 0xAA, 0x2D, g] ++ stored ++ [0xAA, 0xAA, 0xAA] ∧
      stored.length = 4 + p.length ∧
      exec (.frame g d n p c) s = .next { s with env := { s.env with fifoDraws := s.env.fifoDraws ++ stored } })

/-! ## Whole-machine rules -/

/-- The invariant of R27 is kept by every step, from every state that has it. -/
def Obligations.InvariantKeptByEveryStep : Prop :=
  ∀ s t : State, s.Inv → step s = .next t → t.Inv

/-- The CRC invariant is kept by every step: the accumulator follows the stored bytes (R16, R58), and `rxCrcValid` of a
sealed frame says exactly what R18 says. -/
def Obligations.CrcInvariantKeptByEveryStep : Prop :=
  ∀ s t : State, s.Inv → s.CrcInv → step s = .next t → t.CrcInv

/-- The transceiver's last commanded mode follows `linkState` (R10, R38, R115), in every step of an agent. -/
def Obligations.ModeInvariantKeptByAgentSteps : Prop :=
  ∀ s t : State, s.NextNotExchange → s.ModeInv → step s = .next t → t.ModeInv

/-- R32: from a state with the invariant no step touches an offset that does not exist: there is no fault. -/
def Obligations.NoStepFaults : Prop :=
  ∀ (s : State) (r : Fault), s.Inv → step s ≠ .fault r

/-- R87: from a state with the invariant, `linkState` moves only along the listed ways (or by the reset input). -/
def Obligations.LinkStateMovesOnlyAsListed : Prop :=
  ∀ s t : State, s.Inv → step s = .next t → t.linkState = s.linkState ∨ LinkChange (fetch s) s.linkState t.linkState

/-- R65, R75, R9: an event reads and writes one side only: the transmit step leaves all receive-side state, the receive
step all transmit-side state, and both the identity registers, the host's operation and its results. -/
def Obligations.EventTouchesOneSide : Prop :=
  ∀ s t : State, exec .irq s = .next t →
    s.SameIdentity t ∧ t.hostPhase = s.hostPhase ∧ t.returns = s.returns ∧ t.raised = s.raised ∧ t.params = s.params ∧
    (s.linkState = .sending → s.SameReceiveSide t ∧ t.txBuf = s.txBuf ∧ t.txLen = s.txLen ∧ t.env = s.env) ∧
    (s.linkState ≠ .sending → s.SameTransmitSide t)

/-- R9: the identity registers are written only by `CONSTRUCT` (and by reset); the parameters of R6 by no step. -/
def Obligations.IdentityWrittenOnlyByConstruct : Prop :=
  ∀ s t : State, step s = .next t → t.params = s.params ∧
    (s.SameIdentity t ∨ (∃ s', fetch s = .reset s') ∨
    (∃ b g n w rest s', fetch s = .word .host w s' ∧ decode .host w = .ok (.construct b g n) rest ∧
      t.band = s.bandOperand b ∧ t.groupId = g ∧ t.nodeId = n))

/-- R104: no step of an agent issues `SLEEP`. -/
def Obligations.SleepIsNeverIssued : Prop :=
  ∀ s t : State, s.NextNotExchange → step s = .next t → Request.sleep ∉ s.trace → Request.sleep ∉ t.trace

/-- R97, R98: with the decided `MAX_PACKET = 67` no step is labelled `FrameTruncationOverflow`, and without
`SPIN_TIMEOUT_ENABLE` none is labelled or returns `StaleReceptionStall`. -/
def Obligations.UnreachableErrorClasses : Prop :=
  ∀ s t : State, step s = .next t →
    (s.params.maxPacket = 67 → .frameTruncationOverflow ∉ s.raised → .frameTruncationOverflow ∉ t.raised) ∧
    (s.params.spinTimeoutEnable = false →
      (.staleReceptionStall ∉ s.raised → .staleReceptionStall ∉ t.raised) ∧
      (.wStatus .staleReceptionStall ∉ s.returns → .wStatus .staleReceptionStall ∉ t.returns))

/-- R36: every step but reset keeps the request trace and appends to it. -/
def Obligations.TraceOnlyGrows : Prop :=
  ∀ s t : State, step s = .next t → (∃ new, t.trace = s.trace ++ new) ∨ (∃ s', fetch s = .reset s' ∧ t.trace = [])

/-- R27 item 3, R74: as long as a sealed frame waits, no step writes `rxBuf`, `rxLen`, `rxCrc`, `rxCrcValid`. -/
def Obligations.SealedFrameIsHeld : Prop :=
  ∀ s t : State, s.linkState = .receiveComplete → step s = .next t → t.linkState = .receiveComplete →
    t.rxBuf = s.rxBuf ∧ t.rxLen = s.rxLen ∧ t.rxCrc = s.rxCrc ∧ t.rxCrcValid = s.rxCrcValid ∧
    t.rxAvailable = s.rxAvailable

/-- The end-to-end property (95_test_vectors.md S2, S6; R61, R72, R73, R85): a node that listens and is fed the stored bytes of
a frame as another node's builder makes them seals it, and its `POLL_FRAME` returns sender, destination and payload exactly
when the frame is addressed to it or broadcast. -/
def Obligations.FrameIsReceivedAsSent : Prop :=
  ∀ (s : State) (d n : NodeId) (p later : List Byte),
    s.params.Valid → s.linkState = .listening → s.FreshReception → s.hostPhase = .none → s.constructed = true →
    p.length ≤ 63 → p.length + 4 ≤ s.params.maxPacket →
    s.env.fifoDraws = storedBytes d n p (crc16 (coveredBytes d n p)) ++ later →
    ∃ t u, irqEvents (p.length + 4) s = .next t ∧ t.linkState = .receiveComplete ∧ t.rxAvailable = true ∧
      t.rxCrcValid = true ∧ t.env.fifoDraws = later ∧ t.nodeId = s.nodeId ∧
      exec .pollFrame t = .next u ∧ u.linkState = .listening ∧
      u.returns = s.returns ++ [.polled
        (if d = s.nodeId ∨ d = 0 then some { sender := n, destination := d, payload := p } else none)]

/-- R111: a frame that waits when the host calls `CAN_TRANSMIT` on a clear channel is lost: the next `POLL_FRAME` arms
listening and returns `None`, though the frame is still in `rxBuf`. -/
def Obligations.UnreadFrameIsLost : Prop :=
  ∀ s : State, s.hostPhase = .none → s.constructed = true → s.linkState = .receiveComplete → s.carrierReply = false →
    ∃ t u, exec .canTransmit s = .next t ∧ t.rxAvailable = s.rxAvailable ∧ exec .pollFrame t = .next u ∧
      u.returns = s.returns ++ [.clear true, .polled none] ∧ u.linkState = .listening ∧ u.rxAvailable = false ∧
      u.rxBuf = s.rxBuf

/-- R112 with R79: after `CAN_TRANSMIT` aborts a reception the stale bookkeeping stays until the next `POLL_FRAME`, which
starts afresh. -/
def Obligations.AbortedReceptionStartsAfresh : Prop :=
  ∀ s : State, s.hostPhase = .none → s.constructed = true → s.linkState = .receiving → s.carrierReply = false →
    ∃ t u, exec .canTransmit s = .next t ∧ t.linkState = .idle ∧ t.rxCursor = s.rxCursor ∧ t.rxLen = s.rxLen ∧
      t.rxCrc = s.rxCrc ∧ exec .irq t = .next t ∧ exec .pollFrame t = .next u ∧ u.linkState = .listening ∧
      u.FreshReception

/-- R120: the named states follow one another by the operations that name them, and nothing is in flight in any of them. -/
def Obligations.NamedPremisesFollow : Prop :=
  ∀ (b : Band) (g : Byte) (n : NodeId), b < State.afterReset.params.bandCount → n ≠ 0 →
    exec (.construct b g n) State.afterReset = .next (State.constructedWith b g n) ∧
    exec .beginOp (State.constructedWith b g n) = .next (State.begun b g n) ∧
    exec .pollFrame (State.begun b g n) = .next (State.armedListening b g n) ∧
    State.afterReset.NothingInFlight ∧ (State.constructedWith b g n).NothingInFlight ∧
    (State.begun b g n).NothingInFlight ∧ (State.armedListening b g n).NothingInFlight

/-- R10, R24, R50, R51: the codes the outside sees, value by value. So two states show the same `link_state` exactly when they
have the same `linkState`, and a request's code tells which request it is, whatever its data. -/
def Obligations.StatusOutputsShowTheState : Prop :=
  (LinkState.code .idle = 0 ∧ LinkState.code .listening = 1 ∧ LinkState.code .receiving = 2 ∧
    LinkState.code .receiveComplete = 3 ∧ LinkState.code .sending = 4) ∧
  (∀ s : State, s.linkStateOut = s.linkState.code ∧ s.rxAvailableOut = (if s.rxAvailable then 1 else 0)) ∧
  (∀ s t : State, s.linkStateOut = t.linkStateOut ↔ s.linkState = t.linkState) ∧
  (Request.code .idle = 0 ∧ Request.code .sleep = 1 ∧ Request.code .rxOn = 2 ∧ Request.code .txOn = 3 ∧
    (∀ b, Request.code (.fifoRead b) = 4) ∧ (∀ b, Request.code (.fifoWrite b) = 5) ∧
    (∀ c, Request.code (.statusRead c) = 6) ∧ Request.code .fifoDrain = 7 ∧ ∀ b g, Request.code (.config b g) = 8) ∧
  (WStatus.code .ok = 0 ∧ WStatus.code .channelBusy = 1 ∧ WStatus.code .staleReceptionStall = 2) ∧
  (clearBit true = 1 ∧ clearBit false = 0 ∧ rValid none = 0 ∧ ∀ f, rValid (some f) = 1)
end

