-- ==== Sys2Proof/Laws/Decode.lean ====
section
/-!
SUPPORT. The pieces of the decoder against the pieces of the encoder.
-/

namespace Sys2Proof

/-- Decoding the number of a band gives it back, whatever bytes follow. -/
theorem decodeBand_encodeBand (band : Band) (rest : List Byte) :
    decodeBand (encodeBand band ++ rest) = some (band, rest) := by
  have digits : ∀ k r : Nat, r < 255 →
      decodeBand (List.replicate k 0xFF ++ [BitVec.ofNat 8 r] ++ rest) = some (255 * k + r, rest) := by
    intro k r hr
    induction k with
    | zero =>
      have h : BitVec.ofNat 8 r ≠ 0xFF := by
        intro h
        have := congrArg BitVec.toNat h
        simp at this
        omega
      have hm : r % 256 = r := by omega
      simp only [List.replicate_zero, List.nil_append, List.cons_append, decodeBand, if_neg h, BitVec.toNat_ofNat]
      simp [hm]
    | succ k ih =>
      simp only [List.replicate_succ, List.cons_append, decodeBand, if_true, ih]
      rw [show 255 + (255 * k + r) = 255 * (k + 1) + r by omega]
  have h := digits (band / 255) (band % 255) (by omega)
  rw [Nat.div_add_mod] at h
  exact h

/-- All that taking `n` bytes off the front can do. -/
theorem splitBytes_eq (n : Nat) (bytes : List Byte) :
    splitBytes n bytes = if n ≤ bytes.length then some (bytes.take n, bytes.drop n) else none := by
  fun_induction splitBytes n bytes <;> simp_all

/-- Taking a payload off the front gives it back. -/
theorem splitBytes_append (payload rest : List Byte) : splitBytes payload.length (payload ++ rest) = some (payload, rest) := by
  simp [splitBytes_eq]

/-- What is taken off the front has the length asked for. -/
theorem splitBytes_length {n : Nat} {bytes front rest : List Byte} (h : splitBytes n bytes = some (front, rest)) :
    front.length = n := by
  rw [splitBytes_eq, Option.ite_none_right_eq_some] at h
  obtain ⟨hn, h⟩ := h
  have hf : bytes.take n = front := congrArg Prod.fst (Option.some.inj h)
  rw [← hf, List.length_take, Nat.min_eq_left hn]

end Sys2Proof
end

