-- ==== Sys2Proof/Laws/Mem.lean ====
section
/-!
SUPPORT. The laws of the buffer operations: read after write, and the canonical form.
-/

namespace Sys2Proof.Machine

@[simp] theorem Mem.read?_nil (a : Nat) : Mem.read? [] a = none := rfl

@[simp] theorem Mem.read?_write_same (m : Mem) (a : Nat) (b : Byte) : (m.write a b).read? a = some b := by
  induction m with
  | nil => simp [Mem.write, Mem.read?]
  | cons c m ih =>
    obtain ⟨k, v⟩ := c
    simp only [Mem.write]
    split
    · simp [Mem.read?]
    · split
      · simp [Mem.read?]
      · have : k ≠ a := by omega
        simp [Mem.read?, this, ih]

@[simp] theorem Mem.read?_write_other (m : Mem) {a a' : Nat} (b : Byte) (h : a' ≠ a) :
    (m.write a b).read? a' = m.read? a' := by
  induction m with
  | nil => simp [Mem.write, Mem.read?, h.symm]
  | cons c m ih =>
    obtain ⟨k, v⟩ := c
    simp only [Mem.write]
    split
    · simp [Mem.read?, h.symm]
    · split
      next heq => simp [Mem.read?, ← heq, h.symm]
      · simp [Mem.read?, ih]

theorem Mem.read?_write (m : Mem) (a a' : Nat) (b : Byte) :
    (m.write a b).read? a' = if a' = a then some b else m.read? a' := by
  by_cases h : a' = a
  · simp [h]
  · simp [h]

/-- The offsets listed after a write. -/
theorem Mem.mem_write {m : Mem} {a : Nat} {b : Byte} {c : Host.Cell} (h : c ∈ m.write a b) : c = (a, b) ∨ c ∈ m := by
  induction m with
  | nil => simpa [Mem.write] using h
  | cons d m ih =>
    obtain ⟨k, v⟩ := d
    simp only [Mem.write] at h
    split at h
    · simpa using h
    · split at h
      · rcases List.mem_cons.1 h with h | h
        · exact .inl h
        · exact .inr (List.mem_cons_of_mem _ h)
      · rcases List.mem_cons.1 h with h | h
        · exact .inr (by simp [h])
        · exact (ih h).imp id (List.mem_cons_of_mem _)

theorem Mem.write_wf {m : Mem} (h : m.Wf) (a : Nat) (b : Byte) : (m.write a b).Wf := by
  induction m with
  | nil => simp [Mem.write]
  | cons c m ih =>
    obtain ⟨k, v⟩ := c
    obtain ⟨hk, hm⟩ := List.pairwise_cons.1 h
    simp only [Mem.write]
    split
    next hlt =>
      refine List.pairwise_cons.2 ⟨fun x hx => ?_, h⟩
      rcases List.mem_cons.1 hx with rfl | hx
      · exact hlt
      · exact Nat.lt_trans hlt (hk x hx)
    next hge =>
      split
      next heq => exact List.pairwise_cons.2 ⟨fun x hx => heq ▸ hk x hx, hm⟩
      next hne =>
        refine List.pairwise_cons.2 ⟨fun x hx => ?_, ih hm⟩
        rcases Mem.mem_write hx with rfl | hx
        · show k < a
          omega
        · exact hk x hx

theorem Mem.write_within {m : Mem} {cap : Nat} (h : m.Within cap) {a : Nat} (ha : a < cap) (b : Byte) :
    (m.write a b).Within cap := fun c hc => by
  rcases Mem.mem_write hc with rfl | hc
  · exact ha
  · exact h c hc

theorem Mem.writeAll_wf {m : Mem} (h : m.Wf) (a : Nat) (bs : List Byte) : (m.writeAll a bs).Wf := by
  induction bs generalizing m a with
  | nil => exact h
  | cons b bs ih => exact ih (Mem.write_wf h a b) (a + 1)

theorem Mem.writeAll_within {m : Mem} {cap : Nat} (h : m.Within cap) {a : Nat} {bs : List Byte}
    (ha : a + bs.length ≤ cap) : (m.writeAll a bs).Within cap := by
  induction bs generalizing m a with
  | nil => exact h
  | cons b bs ih =>
    simp only [List.length_cons] at ha
    exact ih (Mem.write_within h (by omega) b) (by omega)

/-- What `writeAll` leaves: the bytes written, and every cell outside them as before. -/
theorem Mem.read?_writeAll (m : Mem) (a : Nat) (bs : List Byte) (i : Nat) :
    (m.writeAll a bs).read? i = if a ≤ i ∧ i < a + bs.length then bs[i - a]? else m.read? i := by
  induction bs generalizing m a with
  | nil => simp [Mem.writeAll]
  | cons b bs ih =>
    simp only [Mem.writeAll, ih, List.length_cons]
    by_cases h1 : a + 1 ≤ i ∧ i < a + 1 + bs.length
    · have h2 : a ≤ i ∧ i < a + (bs.length + 1) := by omega
      have h3 : i - a = (i - (a + 1)) + 1 := by omega
      simp [h1, h2, h3]
    · by_cases h4 : i = a
      · subst h4; simp
      · have h2 : ¬ (a ≤ i ∧ i < a + (bs.length + 1)) := by omega
        rw [if_neg h1, if_neg h2, Mem.read?_write_other _ _ h4]

end Sys2Proof.Machine
end

