-- ==== Sys2Proof/Laws/State.lean ====
section
/-!
SUPPORT. Each field after each named update: what the update sets, and that it leaves the rest alone.
-/

namespace Sys2Proof.Machine

/-! ## `State.issue` -/

section
variable (r : Request) (s : State)

@[simp] theorem State.issue_band : (s.issue r).band = s.band := rfl
@[simp] theorem State.issue_groupId : (s.issue r).groupId = s.groupId := rfl
@[simp] theorem State.issue_nodeId : (s.issue r).nodeId = s.nodeId := rfl
@[simp] theorem State.issue_linkState : (s.issue r).linkState = s.linkState := rfl
@[simp] theorem State.issue_rxBuf : (s.issue r).rxBuf = s.rxBuf := rfl
@[simp] theorem State.issue_rxCursor : (s.issue r).rxCursor = s.rxCursor := rfl
@[simp] theorem State.issue_rxLen : (s.issue r).rxLen = s.rxLen := rfl
@[simp] theorem State.issue_rxCrc : (s.issue r).rxCrc = s.rxCrc := rfl
@[simp] theorem State.issue_rxAvailable : (s.issue r).rxAvailable = s.rxAvailable := rfl
@[simp] theorem State.issue_rxCrcValid : (s.issue r).rxCrcValid = s.rxCrcValid := rfl
@[simp] theorem State.issue_txBuf : (s.issue r).txBuf = s.txBuf := rfl
@[simp] theorem State.issue_txLen : (s.issue r).txLen = s.txLen := rfl
@[simp] theorem State.issue_txCursor : (s.issue r).txCursor = s.txCursor := rfl
@[simp] theorem State.issue_hostPhase : (s.issue r).hostPhase = s.hostPhase := rfl
@[simp] theorem State.issue_trace : (s.issue r).trace = s.trace ++ [r] := rfl
@[simp] theorem State.issue_constructed : (s.issue r).constructed = s.constructed := rfl
@[simp] theorem State.issue_params : (s.issue r).params = s.params := rfl
@[simp] theorem State.issue_returns : (s.issue r).returns = s.returns := rfl
@[simp] theorem State.issue_raised : (s.issue r).raised = s.raised := rfl
@[simp] theorem State.issue_env : (s.issue r).env = s.env := rfl

end

/-! ## `State.give` -/

section
variable (r : HostReturn) (s : State)

@[simp] theorem State.give_band : (s.give r).band = s.band := rfl
@[simp] theorem State.give_groupId : (s.give r).groupId = s.groupId := rfl
@[simp] theorem State.give_nodeId : (s.give r).nodeId = s.nodeId := rfl
@[simp] theorem State.give_linkState : (s.give r).linkState = s.linkState := rfl
@[simp] theorem State.give_rxBuf : (s.give r).rxBuf = s.rxBuf := rfl
@[simp] theorem State.give_rxCursor : (s.give r).rxCursor = s.rxCursor := rfl
@[simp] theorem State.give_rxLen : (s.give r).rxLen = s.rxLen := rfl
@[simp] theorem State.give_rxCrc : (s.give r).rxCrc = s.rxCrc := rfl
@[simp] theorem State.give_rxAvailable : (s.give r).rxAvailable = s.rxAvailable := rfl
@[simp] theorem State.give_rxCrcValid : (s.give r).rxCrcValid = s.rxCrcValid := rfl
@[simp] theorem State.give_txBuf : (s.give r).txBuf = s.txBuf := rfl
@[simp] theorem State.give_txLen : (s.give r).txLen = s.txLen := rfl
@[simp] theorem State.give_txCursor : (s.give r).txCursor = s.txCursor := rfl
@[simp] theorem State.give_hostPhase : (s.give r).hostPhase = s.hostPhase := rfl
@[simp] theorem State.give_trace : (s.give r).trace = s.trace := rfl
@[simp] theorem State.give_constructed : (s.give r).constructed = s.constructed := rfl
@[simp] theorem State.give_params : (s.give r).params = s.params := rfl
@[simp] theorem State.give_returns : (s.give r).returns = s.returns ++ [r] := rfl
@[simp] theorem State.give_raised : (s.give r).raised = s.raised := rfl
@[simp] theorem State.give_env : (s.give r).env = s.env := rfl

end

/-! ## `State.raise` -/

section
variable (e : ErrorClass) (s : State)

@[simp] theorem State.raise_band : (s.raise e).band = s.band := rfl
@[simp] theorem State.raise_groupId : (s.raise e).groupId = s.groupId := rfl
@[simp] theorem State.raise_nodeId : (s.raise e).nodeId = s.nodeId := rfl
@[simp] theorem State.raise_linkState : (s.raise e).linkState = s.linkState := rfl
@[simp] theorem State.raise_rxBuf : (s.raise e).rxBuf = s.rxBuf := rfl
@[simp] theorem State.raise_rxCursor : (s.raise e).rxCursor = s.rxCursor := rfl
@[simp] theorem State.raise_rxLen : (s.raise e).rxLen = s.rxLen := rfl
@[simp] theorem State.raise_rxCrc : (s.raise e).rxCrc = s.rxCrc := rfl
@[simp] theorem State.raise_rxAvailable : (s.raise e).rxAvailable = s.rxAvailable := rfl
@[simp] theorem State.raise_rxCrcValid : (s.raise e).rxCrcValid = s.rxCrcValid := rfl
@[simp] theorem State.raise_txBuf : (s.raise e).txBuf = s.txBuf := rfl
@[simp] theorem State.raise_txLen : (s.raise e).txLen = s.txLen := rfl
@[simp] theorem State.raise_txCursor : (s.raise e).txCursor = s.txCursor := rfl
@[simp] theorem State.raise_hostPhase : (s.raise e).hostPhase = s.hostPhase := rfl
@[simp] theorem State.raise_trace : (s.raise e).trace = s.trace := rfl
@[simp] theorem State.raise_constructed : (s.raise e).constructed = s.constructed := rfl
@[simp] theorem State.raise_params : (s.raise e).params = s.params := rfl
@[simp] theorem State.raise_returns : (s.raise e).returns = s.returns := rfl
@[simp] theorem State.raise_raised : (s.raise e).raised = s.raised ++ [e] := rfl
@[simp] theorem State.raise_env : (s.raise e).env = s.env := rfl

end

/-! ## `State.fifoRead` -/

section
variable (s : State)

@[simp] theorem State.fifoRead_band : s.fifoRead.band = s.band := rfl
@[simp] theorem State.fifoRead_groupId : s.fifoRead.groupId = s.groupId := rfl
@[simp] theorem State.fifoRead_nodeId : s.fifoRead.nodeId = s.nodeId := rfl
@[simp] theorem State.fifoRead_linkState : s.fifoRead.linkState = s.linkState := rfl
@[simp] theorem State.fifoRead_rxBuf : s.fifoRead.rxBuf = s.rxBuf := rfl
@[simp] theorem State.fifoRead_rxCursor : s.fifoRead.rxCursor = s.rxCursor := rfl
@[simp] theorem State.fifoRead_rxLen : s.fifoRead.rxLen = s.rxLen := rfl
@[simp] theorem State.fifoRead_rxCrc : s.fifoRead.rxCrc = s.rxCrc := rfl
@[simp] theorem State.fifoRead_rxAvailable : s.fifoRead.rxAvailable = s.rxAvailable := rfl
@[simp] theorem State.fifoRead_rxCrcValid : s.fifoRead.rxCrcValid = s.rxCrcValid := rfl
@[simp] theorem State.fifoRead_txBuf : s.fifoRead.txBuf = s.txBuf := rfl
@[simp] theorem State.fifoRead_txLen : s.fifoRead.txLen = s.txLen := rfl
@[simp] theorem State.fifoRead_txCursor : s.fifoRead.txCursor = s.txCursor := rfl
@[simp] theorem State.fifoRead_hostPhase : s.fifoRead.hostPhase = s.hostPhase := rfl
@[simp] theorem State.fifoRead_trace : s.fifoRead.trace = s.trace ++ [.fifoRead s.fifoReply] := rfl
@[simp] theorem State.fifoRead_constructed : s.fifoRead.constructed = s.constructed := rfl
@[simp] theorem State.fifoRead_params : s.fifoRead.params = s.params := rfl
@[simp] theorem State.fifoRead_returns : s.fifoRead.returns = s.returns := rfl
@[simp] theorem State.fifoRead_raised : s.fifoRead.raised = s.raised := rfl
@[simp] theorem State.fifoRead_env : s.fifoRead.env = s.env.popFifo := rfl

end

/-! ## `State.statusRead` -/

section
variable (s : State)

@[simp] theorem State.statusRead_band : s.statusRead.band = s.band := rfl
@[simp] theorem State.statusRead_groupId : s.statusRead.groupId = s.groupId := rfl
@[simp] theorem State.statusRead_nodeId : s.statusRead.nodeId = s.nodeId := rfl
@[simp] theorem State.statusRead_linkState : s.statusRead.linkState = s.linkState := rfl
@[simp] theorem State.statusRead_rxBuf : s.statusRead.rxBuf = s.rxBuf := rfl
@[simp] theorem State.statusRead_rxCursor : s.statusRead.rxCursor = s.rxCursor := rfl
@[simp] theorem State.statusRead_rxLen : s.statusRead.rxLen = s.rxLen := rfl
@[simp] theorem State.statusRead_rxCrc : s.statusRead.rxCrc = s.rxCrc := rfl
@[simp] theorem State.statusRead_rxAvailable : s.statusRead.rxAvailable = s.rxAvailable := rfl
@[simp] theorem State.statusRead_rxCrcValid : s.statusRead.rxCrcValid = s.rxCrcValid := rfl
@[simp] theorem State.statusRead_txBuf : s.statusRead.txBuf = s.txBuf := rfl
@[simp] theorem State.statusRead_txLen : s.statusRead.txLen = s.txLen := rfl
@[simp] theorem State.statusRead_txCursor : s.statusRead.txCursor = s.txCursor := rfl
@[simp] theorem State.statusRead_hostPhase : s.statusRead.hostPhase = s.hostPhase := rfl
@[simp] theorem State.statusRead_trace : s.statusRead.trace = s.trace ++ [.statusRead s.carrierReply] := rfl
@[simp] theorem State.statusRead_constructed : s.statusRead.constructed = s.constructed := rfl
@[simp] theorem State.statusRead_params : s.statusRead.params = s.params := rfl
@[simp] theorem State.statusRead_returns : s.statusRead.returns = s.returns := rfl
@[simp] theorem State.statusRead_raised : s.statusRead.raised = s.raised := rfl
@[simp] theorem State.statusRead_env : s.statusRead.env = s.env.popStatus := rfl

end

/-! ## `State.armListen` -/

section
variable (s : State)

@[simp] theorem State.armListen_band : s.armListen.band = s.band := rfl
@[simp] theorem State.armListen_groupId : s.armListen.groupId = s.groupId := rfl
@[simp] theorem State.armListen_nodeId : s.armListen.nodeId = s.nodeId := rfl
@[simp] theorem State.armListen_linkState : s.armListen.linkState = .listening := rfl
@[simp] theorem State.armListen_rxBuf : s.armListen.rxBuf = s.rxBuf := rfl
@[simp] theorem State.armListen_rxCursor : s.armListen.rxCursor = 0 := rfl
@[simp] theorem State.armListen_rxLen : s.armListen.rxLen = 0 := rfl
@[simp] theorem State.armListen_rxCrc : s.armListen.rxCrc = Config.crcSeed := rfl
@[simp] theorem State.armListen_rxAvailable : s.armListen.rxAvailable = false := rfl
@[simp] theorem State.armListen_rxCrcValid : s.armListen.rxCrcValid = false := rfl
@[simp] theorem State.armListen_txBuf : s.armListen.txBuf = s.txBuf := rfl
@[simp] theorem State.armListen_txLen : s.armListen.txLen = s.txLen := rfl
@[simp] theorem State.armListen_txCursor : s.armListen.txCursor = s.txCursor := rfl
@[simp] theorem State.armListen_hostPhase : s.armListen.hostPhase = s.hostPhase := rfl
@[simp] theorem State.armListen_trace : s.armListen.trace = s.trace ++ [.rxOn] := rfl
@[simp] theorem State.armListen_constructed : s.armListen.constructed = s.constructed := rfl
@[simp] theorem State.armListen_params : s.armListen.params = s.params := rfl
@[simp] theorem State.armListen_returns : s.armListen.returns = s.returns := rfl
@[simp] theorem State.armListen_raised : s.armListen.raised = s.raised := rfl
@[simp] theorem State.armListen_env : s.armListen.env = s.env := rfl

end

/-! ## `State.takeByte` -/

section
variable (s : State)

@[simp] theorem State.takeByte_band : s.takeByte.band = s.band := rfl
@[simp] theorem State.takeByte_groupId : s.takeByte.groupId = s.groupId := rfl
@[simp] theorem State.takeByte_nodeId : s.takeByte.nodeId = s.nodeId := rfl
@[simp] theorem State.takeByte_linkState : s.takeByte.linkState = .receiving := rfl
@[simp] theorem State.takeByte_rxBuf : s.takeByte.rxBuf = s.rxBuf.write s.rxCursor.toNat s.fifoReply := rfl
@[simp] theorem State.takeByte_rxCursor : s.takeByte.rxCursor = s.rxCursor + 1#7 := rfl
@[simp] theorem State.takeByte_rxLen : s.takeByte.rxLen = lenAfter s.rxCursor.toNat s.rxLen s.fifoReply := rfl
@[simp] theorem State.takeByte_rxCrc : s.takeByte.rxCrc = crcAfter s.rxCursor.toNat s.rxLen s.rxCrc s.fifoReply := rfl
@[simp] theorem State.takeByte_rxAvailable : s.takeByte.rxAvailable = s.rxAvailable := rfl
@[simp] theorem State.takeByte_rxCrcValid : s.takeByte.rxCrcValid = s.rxCrcValid := rfl
@[simp] theorem State.takeByte_txBuf : s.takeByte.txBuf = s.txBuf := rfl
@[simp] theorem State.takeByte_txLen : s.takeByte.txLen = s.txLen := rfl
@[simp] theorem State.takeByte_txCursor : s.takeByte.txCursor = s.txCursor := rfl
@[simp] theorem State.takeByte_hostPhase : s.takeByte.hostPhase = s.hostPhase := rfl
@[simp] theorem State.takeByte_trace : s.takeByte.trace = s.trace ++ [.fifoRead s.fifoReply] := rfl
@[simp] theorem State.takeByte_constructed : s.takeByte.constructed = s.constructed := rfl
@[simp] theorem State.takeByte_params : s.takeByte.params = s.params := rfl
@[simp] theorem State.takeByte_returns : s.takeByte.returns = s.returns := rfl
@[simp] theorem State.takeByte_raised : s.takeByte.raised = s.raised := rfl
@[simp] theorem State.takeByte_env : s.takeByte.env = s.env.popFifo := rfl

end

/-! ## `State.sealFrame` -/

section
variable (s : State)

@[simp] theorem State.sealFrame_band : s.sealFrame.band = s.band := rfl
@[simp] theorem State.sealFrame_groupId : s.sealFrame.groupId = s.groupId := rfl
@[simp] theorem State.sealFrame_nodeId : s.sealFrame.nodeId = s.nodeId := rfl
@[simp] theorem State.sealFrame_linkState : s.sealFrame.linkState = .receiveComplete := rfl
@[simp] theorem State.sealFrame_rxBuf : s.sealFrame.rxBuf = s.rxBuf := rfl
@[simp] theorem State.sealFrame_rxCursor : s.sealFrame.rxCursor = 0 := rfl
@[simp] theorem State.sealFrame_rxLen : s.sealFrame.rxLen = s.rxLen := rfl
@[simp] theorem State.sealFrame_rxCrc : s.sealFrame.rxCrc = s.rxCrc := rfl
@[simp] theorem State.sealFrame_rxAvailable : s.sealFrame.rxAvailable = true := rfl
@[simp] theorem State.sealFrame_rxCrcValid : s.sealFrame.rxCrcValid = s.crcVerdict := rfl
@[simp] theorem State.sealFrame_txBuf : s.sealFrame.txBuf = s.txBuf := rfl
@[simp] theorem State.sealFrame_txLen : s.sealFrame.txLen = s.txLen := rfl
@[simp] theorem State.sealFrame_txCursor : s.sealFrame.txCursor = s.txCursor := rfl
@[simp] theorem State.sealFrame_hostPhase : s.sealFrame.hostPhase = s.hostPhase := rfl
@[simp] theorem State.sealFrame_trace : s.sealFrame.trace = s.trace ++ [.idle] ++ [.fifoDrain] := rfl
@[simp] theorem State.sealFrame_constructed : s.sealFrame.constructed = s.constructed := rfl
@[simp] theorem State.sealFrame_params : s.sealFrame.params = s.params := rfl
@[simp] theorem State.sealFrame_returns : s.sealFrame.returns = s.returns := rfl
@[simp] theorem State.sealFrame_raised : s.sealFrame.raised = s.raised := rfl
@[simp] theorem State.sealFrame_env : s.sealFrame.env = s.env := rfl

end

/-! ## `State.pushByte` -/

section
variable (s : State)

@[simp] theorem State.pushByte_band : s.pushByte.band = s.band := rfl
@[simp] theorem State.pushByte_groupId : s.pushByte.groupId = s.groupId := rfl
@[simp] theorem State.pushByte_nodeId : s.pushByte.nodeId = s.nodeId := rfl
@[simp] theorem State.pushByte_linkState : s.pushByte.linkState = s.linkState := rfl
@[simp] theorem State.pushByte_rxBuf : s.pushByte.rxBuf = s.rxBuf := rfl
@[simp] theorem State.pushByte_rxCursor : s.pushByte.rxCursor = s.rxCursor := rfl
@[simp] theorem State.pushByte_rxLen : s.pushByte.rxLen = s.rxLen := rfl
@[simp] theorem State.pushByte_rxCrc : s.pushByte.rxCrc = s.rxCrc := rfl
@[simp] theorem State.pushByte_rxAvailable : s.pushByte.rxAvailable = s.rxAvailable := rfl
@[simp] theorem State.pushByte_rxCrcValid : s.pushByte.rxCrcValid = s.rxCrcValid := rfl
@[simp] theorem State.pushByte_txBuf : s.pushByte.txBuf = s.txBuf := rfl
@[simp] theorem State.pushByte_txLen : s.pushByte.txLen = s.txLen := rfl
@[simp] theorem State.pushByte_txCursor : s.pushByte.txCursor = s.txCursor + 1#7 := rfl
@[simp] theorem State.pushByte_hostPhase : s.pushByte.hostPhase = s.hostPhase := rfl
@[simp] theorem State.pushByte_trace : s.pushByte.trace = s.trace ++ [.fifoWrite (s.readTx s.txCursor.toNat)] := rfl
@[simp] theorem State.pushByte_constructed : s.pushByte.constructed = s.constructed := rfl
@[simp] theorem State.pushByte_params : s.pushByte.params = s.params := rfl
@[simp] theorem State.pushByte_returns : s.pushByte.returns = s.returns := rfl
@[simp] theorem State.pushByte_raised : s.pushByte.raised = s.raised := rfl
@[simp] theorem State.pushByte_env : s.pushByte.env = s.env := rfl

end

/-! ## `State.completeSend` -/

section
variable (s : State)

@[simp] theorem State.completeSend_band : s.completeSend.band = s.band := rfl
@[simp] theorem State.completeSend_groupId : s.completeSend.groupId = s.groupId := rfl
@[simp] theorem State.completeSend_nodeId : s.completeSend.nodeId = s.nodeId := rfl
@[simp] theorem State.completeSend_linkState : s.completeSend.linkState = .idle := rfl
@[simp] theorem State.completeSend_rxBuf : s.completeSend.rxBuf = s.rxBuf := rfl
@[simp] theorem State.completeSend_rxCursor : s.completeSend.rxCursor = s.rxCursor := rfl
@[simp] theorem State.completeSend_rxLen : s.completeSend.rxLen = s.rxLen := rfl
@[simp] theorem State.completeSend_rxCrc : s.completeSend.rxCrc = s.rxCrc := rfl
@[simp] theorem State.completeSend_rxAvailable : s.completeSend.rxAvailable = s.rxAvailable := rfl
@[simp] theorem State.completeSend_rxCrcValid : s.completeSend.rxCrcValid = s.rxCrcValid := rfl
@[simp] theorem State.completeSend_txBuf : s.completeSend.txBuf = s.txBuf := rfl
@[simp] theorem State.completeSend_txLen : s.completeSend.txLen = s.txLen := rfl
@[simp] theorem State.completeSend_txCursor : s.completeSend.txCursor = s.txCursor := rfl
@[simp] theorem State.completeSend_hostPhase : s.completeSend.hostPhase = s.hostPhase := rfl
@[simp] theorem State.completeSend_trace : s.completeSend.trace = s.trace ++ [.idle] ++ [.fifoWrite Config.pad] := rfl
@[simp] theorem State.completeSend_constructed : s.completeSend.constructed = s.constructed := rfl
@[simp] theorem State.completeSend_params : s.completeSend.params = s.params := rfl
@[simp] theorem State.completeSend_returns : s.completeSend.returns = s.returns := rfl
@[simp] theorem State.completeSend_raised : s.completeSend.raised = s.raised := rfl
@[simp] theorem State.completeSend_env : s.completeSend.env = s.env := rfl

end

/-! ## `State.clearChannel` -/

section
variable (s : State)

@[simp] theorem State.clearChannel_band : s.clearChannel.band = s.band := rfl
@[simp] theorem State.clearChannel_groupId : s.clearChannel.groupId = s.groupId := rfl
@[simp] theorem State.clearChannel_nodeId : s.clearChannel.nodeId = s.nodeId := rfl
@[simp] theorem State.clearChannel_linkState : s.clearChannel.linkState = .idle := rfl
@[simp] theorem State.clearChannel_rxBuf : s.clearChannel.rxBuf = s.rxBuf := rfl
@[simp] theorem State.clearChannel_rxCursor : s.clearChannel.rxCursor = s.rxCursor := rfl
@[simp] theorem State.clearChannel_rxLen : s.clearChannel.rxLen = s.rxLen := rfl
@[simp] theorem State.clearChannel_rxCrc : s.clearChannel.rxCrc = s.rxCrc := rfl
@[simp] theorem State.clearChannel_rxAvailable : s.clearChannel.rxAvailable = s.rxAvailable := rfl
@[simp] theorem State.clearChannel_rxCrcValid : s.clearChannel.rxCrcValid = s.rxCrcValid := rfl
@[simp] theorem State.clearChannel_txBuf : s.clearChannel.txBuf = s.txBuf := rfl
@[simp] theorem State.clearChannel_txLen : s.clearChannel.txLen = s.txLen := rfl
@[simp] theorem State.clearChannel_txCursor : s.clearChannel.txCursor = s.txCursor := rfl
@[simp] theorem State.clearChannel_hostPhase : s.clearChannel.hostPhase = s.hostPhase := rfl
@[simp] theorem State.clearChannel_trace : s.clearChannel.trace = s.trace ++ [.idle] ++ [.fifoDrain] := rfl
@[simp] theorem State.clearChannel_constructed : s.clearChannel.constructed = s.constructed := rfl
@[simp] theorem State.clearChannel_params : s.clearChannel.params = s.params := rfl
@[simp] theorem State.clearChannel_returns : s.clearChannel.returns = s.returns := rfl
@[simp] theorem State.clearChannel_raised : s.clearChannel.raised = s.raised := rfl
@[simp] theorem State.clearChannel_env : s.clearChannel.env = s.env := rfl

end

/-! ## `State.armSend` -/

section
variable (d : NodeId) (a : Bool) (p : List Byte) (s : State)

@[simp] theorem State.armSend_band : (s.armSend d a p).band = s.band := rfl
@[simp] theorem State.armSend_groupId : (s.armSend d a p).groupId = s.groupId := rfl
@[simp] theorem State.armSend_nodeId : (s.armSend d a p).nodeId = s.nodeId := rfl
@[simp] theorem State.armSend_linkState : (s.armSend d a p).linkState = .sending := rfl
@[simp] theorem State.armSend_rxBuf : (s.armSend d a p).rxBuf = s.rxBuf := rfl
@[simp] theorem State.armSend_rxCursor : (s.armSend d a p).rxCursor = s.rxCursor := rfl
@[simp] theorem State.armSend_rxLen : (s.armSend d a p).rxLen = s.rxLen := rfl
@[simp] theorem State.armSend_rxCrc : (s.armSend d a p).rxCrc = s.rxCrc := rfl
@[simp] theorem State.armSend_rxAvailable : (s.armSend d a p).rxAvailable = s.rxAvailable := rfl
@[simp] theorem State.armSend_rxCrcValid : (s.armSend d a p).rxCrcValid = s.rxCrcValid := rfl
@[simp] theorem State.armSend_txBuf : (s.armSend d a p).txBuf = s.txBuf.writeAll 0 (s.frameToSend d a p) := rfl
@[simp] theorem State.armSend_txLen : (s.armSend d a p).txLen = BitVec.ofNat 7 (s.frameToSend d a p).length := rfl
@[simp] theorem State.armSend_txCursor : (s.armSend d a p).txCursor = 0 := rfl
@[simp] theorem State.armSend_hostPhase : (s.armSend d a p).hostPhase = s.hostPhase := rfl
@[simp] theorem State.armSend_trace : (s.armSend d a p).trace = s.trace ++ [.txOn] := rfl
@[simp] theorem State.armSend_constructed : (s.armSend d a p).constructed = s.constructed := rfl
@[simp] theorem State.armSend_params : (s.armSend d a p).params = s.params := rfl
@[simp] theorem State.armSend_returns : (s.armSend d a p).returns = s.returns := rfl
@[simp] theorem State.armSend_raised : (s.armSend d a p).raised = s.raised := rfl
@[simp] theorem State.armSend_env : (s.armSend d a p).env = s.env := rfl

end

/-! ## `State.arrive` -/

section
variable (bytes : List Byte) (s : State)

@[simp] theorem State.arrive_band : (s.arrive bytes).band = s.band := rfl
@[simp] theorem State.arrive_groupId : (s.arrive bytes).groupId = s.groupId := rfl
@[simp] theorem State.arrive_nodeId : (s.arrive bytes).nodeId = s.nodeId := rfl
@[simp] theorem State.arrive_linkState : (s.arrive bytes).linkState = s.linkState := rfl
@[simp] theorem State.arrive_rxBuf : (s.arrive bytes).rxBuf = s.rxBuf := rfl
@[simp] theorem State.arrive_rxCursor : (s.arrive bytes).rxCursor = s.rxCursor := rfl
@[simp] theorem State.arrive_rxLen : (s.arrive bytes).rxLen = s.rxLen := rfl
@[simp] theorem State.arrive_rxCrc : (s.arrive bytes).rxCrc = s.rxCrc := rfl
@[simp] theorem State.arrive_rxAvailable : (s.arrive bytes).rxAvailable = s.rxAvailable := rfl
@[simp] theorem State.arrive_rxCrcValid : (s.arrive bytes).rxCrcValid = s.rxCrcValid := rfl
@[simp] theorem State.arrive_txBuf : (s.arrive bytes).txBuf = s.txBuf := rfl
@[simp] theorem State.arrive_txLen : (s.arrive bytes).txLen = s.txLen := rfl
@[simp] theorem State.arrive_txCursor : (s.arrive bytes).txCursor = s.txCursor := rfl
@[simp] theorem State.arrive_hostPhase : (s.arrive bytes).hostPhase = s.hostPhase := rfl
@[simp] theorem State.arrive_trace : (s.arrive bytes).trace = s.trace := rfl
@[simp] theorem State.arrive_constructed : (s.arrive bytes).constructed = s.constructed := rfl
@[simp] theorem State.arrive_params : (s.arrive bytes).params = s.params := rfl
@[simp] theorem State.arrive_returns : (s.arrive bytes).returns = s.returns := rfl
@[simp] theorem State.arrive_raised : (s.arrive bytes).raised = s.raised := rfl
@[simp] theorem State.arrive_env : (s.arrive bytes).env = { s.env with fifoDraws := s.env.fifoDraws ++ bytes } := rfl

end

/-! ## `State.withTurns` -/

section
variable (ts : List Turn) (s : State)

@[simp] theorem State.withTurns_band : (s.withTurns ts).band = s.band := rfl
@[simp] theorem State.withTurns_groupId : (s.withTurns ts).groupId = s.groupId := rfl
@[simp] theorem State.withTurns_nodeId : (s.withTurns ts).nodeId = s.nodeId := rfl
@[simp] theorem State.withTurns_linkState : (s.withTurns ts).linkState = s.linkState := rfl
@[simp] theorem State.withTurns_rxBuf : (s.withTurns ts).rxBuf = s.rxBuf := rfl
@[simp] theorem State.withTurns_rxCursor : (s.withTurns ts).rxCursor = s.rxCursor := rfl
@[simp] theorem State.withTurns_rxLen : (s.withTurns ts).rxLen = s.rxLen := rfl
@[simp] theorem State.withTurns_rxCrc : (s.withTurns ts).rxCrc = s.rxCrc := rfl
@[simp] theorem State.withTurns_rxAvailable : (s.withTurns ts).rxAvailable = s.rxAvailable := rfl
@[simp] theorem State.withTurns_rxCrcValid : (s.withTurns ts).rxCrcValid = s.rxCrcValid := rfl
@[simp] theorem State.withTurns_txBuf : (s.withTurns ts).txBuf = s.txBuf := rfl
@[simp] theorem State.withTurns_txLen : (s.withTurns ts).txLen = s.txLen := rfl
@[simp] theorem State.withTurns_txCursor : (s.withTurns ts).txCursor = s.txCursor := rfl
@[simp] theorem State.withTurns_hostPhase : (s.withTurns ts).hostPhase = s.hostPhase := rfl
@[simp] theorem State.withTurns_trace : (s.withTurns ts).trace = s.trace := rfl
@[simp] theorem State.withTurns_constructed : (s.withTurns ts).constructed = s.constructed := rfl
@[simp] theorem State.withTurns_params : (s.withTurns ts).params = s.params := rfl
@[simp] theorem State.withTurns_returns : (s.withTurns ts).returns = s.returns := rfl
@[simp] theorem State.withTurns_raised : (s.withTurns ts).raised = s.raised := rfl
@[simp] theorem State.withTurns_env : (s.withTurns ts).env = { s.env with turns := ts } := rfl

end

/-! ## `State.withCalls` -/

section
variable (cs : List (List Byte)) (s : State)

@[simp] theorem State.withCalls_band : (s.withCalls cs).band = s.band := rfl
@[simp] theorem State.withCalls_groupId : (s.withCalls cs).groupId = s.groupId := rfl
@[simp] theorem State.withCalls_nodeId : (s.withCalls cs).nodeId = s.nodeId := rfl
@[simp] theorem State.withCalls_linkState : (s.withCalls cs).linkState = s.linkState := rfl
@[simp] theorem State.withCalls_rxBuf : (s.withCalls cs).rxBuf = s.rxBuf := rfl
@[simp] theorem State.withCalls_rxCursor : (s.withCalls cs).rxCursor = s.rxCursor := rfl
@[simp] theorem State.withCalls_rxLen : (s.withCalls cs).rxLen = s.rxLen := rfl
@[simp] theorem State.withCalls_rxCrc : (s.withCalls cs).rxCrc = s.rxCrc := rfl
@[simp] theorem State.withCalls_rxAvailable : (s.withCalls cs).rxAvailable = s.rxAvailable := rfl
@[simp] theorem State.withCalls_rxCrcValid : (s.withCalls cs).rxCrcValid = s.rxCrcValid := rfl
@[simp] theorem State.withCalls_txBuf : (s.withCalls cs).txBuf = s.txBuf := rfl
@[simp] theorem State.withCalls_txLen : (s.withCalls cs).txLen = s.txLen := rfl
@[simp] theorem State.withCalls_txCursor : (s.withCalls cs).txCursor = s.txCursor := rfl
@[simp] theorem State.withCalls_hostPhase : (s.withCalls cs).hostPhase = s.hostPhase := rfl
@[simp] theorem State.withCalls_trace : (s.withCalls cs).trace = s.trace := rfl
@[simp] theorem State.withCalls_constructed : (s.withCalls cs).constructed = s.constructed := rfl
@[simp] theorem State.withCalls_params : (s.withCalls cs).params = s.params := rfl
@[simp] theorem State.withCalls_returns : (s.withCalls cs).returns = s.returns := rfl
@[simp] theorem State.withCalls_raised : (s.withCalls cs).raised = s.raised := rfl
@[simp] theorem State.withCalls_env : (s.withCalls cs).env = { s.env with hostCalls := cs } := rfl

end

end Sys2Proof.Machine
end

