-- ==== Sys2Proof/Laws/Ops.lean ====
section
/-!
SUPPORT. For each shared operation, once, what it can do.
-/

namespace Sys2Proof.Machine

/-! ## Who may act -/

theorem State.asHost_next {s t : State} {k : State → Outcome} :
    s.asHost k = .next t ↔ s.hostPhase = .none ∧ k s = .next t := by
  unfold State.asHost
  cases h : s.hostPhase <;> simp

theorem State.asHost_none {s : State} (h : s.hostPhase = .none) (k : State → Outcome) : s.asHost k = k s := by
  simp [State.asHost, h]

theorem State.asHost_held {s : State} (h : s.hostPhase ≠ .none) (k : State → Outcome) :
    s.asHost k = .refused .hostHeld := by
  unfold State.asHost
  cases h' : s.hostPhase <;> simp_all

theorem State.withIdentity_next {s t : State} {k : State → Outcome} :
    s.withIdentity k = .next t ↔ s.constructed = true ∧ k s = .next t := by
  unfold State.withIdentity
  split <;> simp_all

theorem State.withIdentity_constructed {s : State} (h : s.constructed = true) (k : State → Outcome) :
    s.withIdentity k = k s := by
  simp [State.withIdentity, h]

theorem State.withIdentity_unset {s : State} (h : s.constructed = false) (k : State → Outcome) :
    s.withIdentity k = .refused .identityUnset := by
  simp [State.withIdentity, h]

/-- The request `CONFIG` once the identity registers have a value. -/
theorem State.configRequest_constructed {s : State} (h : s.constructed = true) :
    s.configRequest = .config s.band s.groupId := by
  simp [State.configRequest, h]

/-- Whatever it carries, it is a `CONFIG`. -/
theorem State.configRequest_eq (s : State) : ∃ band groupId, s.configRequest = .config band groupId := by
  unfold State.configRequest
  split <;> exact ⟨_, _, rfl⟩

/-! ## Replies -/

theorem State.fifoReply_cons {s : State} {b : Byte} {bs : List Byte} (h : s.env.fifoDraws = b :: bs) :
    s.fifoReply = b := by
  simp [State.fifoReply, h]

theorem State.fifoReply_congr {s t : State} (h : t.env.fifoDraws = s.env.fifoDraws) (hc : t.env.drawCount = s.env.drawCount) :
    t.fifoReply = s.fifoReply := by
  simp [State.fifoReply, h, hc]

theorem State.carrierReply_congr {s t : State} (h : t.env.statusDraws = s.env.statusDraws)
    (hc : t.env.drawCount = s.env.drawCount) : t.carrierReply = s.carrierReply := by
  simp [State.carrierReply, h, hc]

theorem Env.popFifo_cons {e : Env} {b : Byte} {bs : List Byte} (h : e.fifoDraws = b :: bs) :
    e.popFifo = { e with fifoDraws := bs } := by
  simp [Env.popFifo, h]

theorem State.carrierReply_cons {s : State} {c : Bool} {cs : List Bool} (h : s.env.statusDraws = c :: cs) :
    s.carrierReply = c := by
  simp [State.carrierReply, h]

theorem Env.popStatus_cons {e : Env} {c : Bool} {cs : List Bool} (h : e.statusDraws = c :: cs) :
    e.popStatus = { e with statusDraws := cs } := by
  simp [Env.popStatus, h]

@[simp] theorem Env.popFifo_turns (e : Env) : e.popFifo.turns = e.turns := by
  unfold Env.popFifo; split <;> rfl

@[simp] theorem Env.popFifo_hostCalls (e : Env) : e.popFifo.hostCalls = e.hostCalls := by
  unfold Env.popFifo; split <;> rfl

@[simp] theorem Env.popStatus_turns (e : Env) : e.popStatus.turns = e.turns := by
  unfold Env.popStatus; split <;> rfl

@[simp] theorem Env.popStatus_hostCalls (e : Env) : e.popStatus.hostCalls = e.hostCalls := by
  unfold Env.popStatus; split <;> rfl

/-! ## Reading the buffers -/

/-- Reading depends on the buffer alone. -/
theorem State.readRx_congr {s t : State} (h : t.rxBuf = s.rxBuf) (i : Nat) : t.readRx i = s.readRx i := by
  simp [State.readRx, h]

theorem State.readTx_congr {s t : State} (h : t.txBuf = s.txBuf) (i : Nat) : t.readTx i = s.readTx i := by
  simp [State.readTx, h]

@[simp] theorem State.readRx_takeByte_same (s : State) : s.takeByte.readRx s.rxCursor.toNat = s.fifoReply := by
  simp [State.readRx]

theorem State.readRx_takeByte_other (s : State) {i : Nat} (h : i ≠ s.rxCursor.toNat) :
    s.takeByte.readRx i = s.readRx i := by
  simp [State.readRx, h]

theorem State.readTx_armSend (d : NodeId) (a : Bool) (p : List Byte) (s : State) (i : Nat) :
    (s.armSend d a p).readTx i = ((s.frameToSend d a p)[i]?).getD (s.readTx i) := by
  simp only [State.readTx, State.armSend_txBuf, Mem.read?_writeAll]
  by_cases h : i < (s.frameToSend d a p).length
  · simp [h]
  · simp [h]

/-! ## The frame builder's length -/

@[simp] theorem coveredBytes_length (d n : NodeId) (p : List Byte) : (coveredBytes d n p).length = 2 + p.length := by
  simp [coveredBytes]; omega

@[simp] theorem storedBytes_length (d n : NodeId) (p : List Byte) (c : Word16) :
    (storedBytes d n p c).length = 4 + p.length := by
  simp [storedBytes]; omega

@[simp] theorem wireBytes_length (g : Byte) (d n : NodeId) (p : List Byte) (c : Word16) :
    (wireBytes g d n p c).length = 12 + p.length := by
  simp [wireBytes]; omega

theorem keptPayload_length (p : List Byte) : (keptPayload p).length = min p.length 63 := by
  simp [keptPayload, Config.maxPayload, Nat.min_comm]

theorem encodeFrame_length (m : Nat) (g : Byte) (d : NodeId) (n : Option NodeId) (p : List Byte) :
    (encodeFrame m g d n p).length = min (12 + min p.length 63) m := by
  simp [encodeFrame, fullFrame, keptPayload_length]

theorem State.frameToSend_length (s : State) (d : NodeId) (a : Bool) (p : List Byte) :
    (s.frameToSend d a p).length = min (12 + min p.length 63) s.params.maxSignal :=
  encodeFrame_length _ _ _ _ _

/-! ## The sequencers -/

theorem receiveStep_next {s t : State} :
    receiveStep s = .next t ↔ s.rxCursor.toNat < s.params.maxPacket ∧
      t = s.takeByte.sealIfDue := by
  unfold receiveStep
  split <;> simp_all [eq_comm]

/-- What an event can do: nothing, one receive step, one push, or completion (R89). -/
theorem execIrq_next {s t : State} (h : execIrq s = .next t) :
    (s.linkState = .idle ∨ s.linkState = .receiveComplete) ∧ t = s ∨
    (s.linkState = .listening ∨ s.linkState = .receiving) ∧ receiveStep s = .next t ∨
    s.linkState = .sending ∧ s.pushDue = true ∧ t = s.pushByte ∨
    s.linkState = .sending ∧ s.pushDue = false ∧ t = s.completeSend := by
  unfold execIrq at h
  cases hl : s.linkState <;> simp_all
  rw [← h]
  unfold transmitStep
  cases hp : s.pushDue <;> simp

/-- Where the receive step stops: at an offset that does not exist (R32; log 18). -/
theorem execIrq_beyond {s : State} (hl : s.linkState = .listening ∨ s.linkState = .receiving)
    (h : s.params.maxPacket ≤ s.rxCursor.toNat) : execIrq s = .fault .bufferBounds := by
  rcases hl with hl | hl <;> simp [execIrq, hl, receiveStep, Nat.not_lt.2 h]

/-- Where `POLL_FRAME` stops: the payload of a frame it would return ends beyond the buffer (R32; log 18). -/
theorem execPollFrame_beyond {s : State} (hp : s.hostPhase = .none) (hc : s.constructed = true)
    (ha : s.frameAvailable = true) (hd : s.addressed = true) (hv : s.rxCrcValid = true) (hb : s.payloadInBounds = false) :
    execPollFrame s = .fault .bufferBounds := by
  have hl : s.linkState ≠ .idle := by
    intro h
    simp [State.frameAvailable, h] at ha
  simp [execPollFrame, State.asHost, hp, State.withIdentity, hc, hl, ha, hd, hv, hb]

/-- What the host's next step in a `WRITE_FRAME` can do: nothing, leave the wait, or arm (R83, R84). -/
theorem hostProceed_next {s t : State} (h : hostProceed s = .next t) :
    t = s ∨
    (∃ d a p, s.hostPhase = .writeWaiting d a p ∧ s.linkState ≠ .receiving ∧ t = { s with hostPhase := .writeArming d a p }) ∨
    (∃ d a p, s.hostPhase = .writeArming d a p ∧ t = armStep d a p s) := by
  unfold hostProceed at h
  split at h
  · simp_all
  · next d a p hp =>
    simp only [Host.Outcome.next.injEq] at h
    subst h
    unfold observeStep
    split
    · simp
    · exact .inr (.inl ⟨d, a, p, hp, ‹_›, rfl⟩)
  · next d a p hp =>
    simp only [Host.Outcome.next.injEq] at h
    exact .inr (.inr ⟨d, a, p, hp, h.symm⟩)

/-- What `POLL_FRAME` can do (R85). -/
theorem execPollFrame_next {s t : State} (h : execPollFrame s = .next t) :
    s.hostPhase = .none ∧ s.constructed = true ∧
    (s.linkState = .idle ∧ t = s.armListen.give (.polled none) ∨
     s.linkState = .receiveComplete ∧ s.rxAvailable = true ∧ t = s.consumeFrame ∨
     s.linkState ≠ .idle ∧ s.frameAvailable = false ∧ t = s.give (.polled none)) := by
  unfold execPollFrame at h
  obtain ⟨hp, h⟩ := State.asHost_next.1 h
  obtain ⟨hc, h⟩ := State.withIdentity_next.1 h
  refine ⟨hp, hc, ?_⟩
  split at h
  · simp_all
  · split at h
    next hl ha =>
      split at h
      · simp at h
      · simp [State.frameAvailable] at ha
        simp_all
    next hl ha => simp_all

end Sys2Proof.Machine
end

