-- ==== Sys2Proof/Laws/PerInstr.lean ====
section
/-!
SUPPORT. Per instruction: a well-formed instruction's word has at least one byte and at most the longest word's.
-/

namespace Sys2Proof.Laws.EncodedSize

open Sys2Proof.Machine

/-- How many bytes a band's number takes beyond its first. -/
def extraBytes : Instr → Nat
  | .construct b _ _ => b / 255
  | _ => 0

/-- The word of a well-formed instruction is neither empty nor longer than the longest word, a band's further bytes apart. -/
def Statement (i : Instr) : Prop :=
  i.WellFormed → 1 ≤ (encode i).length ∧ (encode i).length ≤ longestWord + extraBytes i

theorem construct (b : Band) (g : Byte) (n : NodeId) : Statement (.construct b g n) := fun _ => by
  simp [encode, encodeBand, longestWord, Config.maxHostPayload, extraBytes]
  omega

theorem beginOp : Statement .beginOp := fun _ => by decide
theorem canTransmit : Statement .canTransmit := fun _ => by decide

theorem writeFrame (d : NodeId) (a : Bool) (p : List Byte) : Statement (.writeFrame d a p) := fun h => by
  have h : p.length ≤ 255 := h
  simp [encode, longestWord, Config.maxHostPayload, extraBytes]
  omega

theorem pollFrame : Statement .pollFrame := fun _ => by decide
theorem reserved5 : Statement .reserved5 := fun _ => by decide
theorem reserved6 : Statement .reserved6 := fun _ => by decide
theorem reserved7 : Statement .reserved7 := fun _ => by decide
theorem irq : Statement .irq := fun _ => by decide
theorem tIdle : Statement .tIdle := fun _ => by decide
theorem tSleep : Statement .tSleep := fun _ => by decide
theorem tRxOn : Statement .tRxOn := fun _ => by decide
theorem tTxOn : Statement .tTxOn := fun _ => by decide
theorem tFifoRead : Statement .tFifoRead := fun _ => by decide
theorem tFifoWrite (b : Byte) : Statement (.tFifoWrite b) := fun _ => by
  simp [encode, longestWord, Config.maxHostPayload, extraBytes]

theorem tStatusRead : Statement .tStatusRead := fun _ => by decide
theorem tFifoDrain : Statement .tFifoDrain := fun _ => by decide
theorem tConfig : Statement .tConfig := fun _ => by decide
theorem header (d n : NodeId) (l : PayloadLen) : Statement (.header d n l) := fun _ => by
  simp [encode, longestWord, Config.maxHostPayload, extraBytes]

theorem frame (g : Byte) (d n : NodeId) (p : List Byte) (c : Word16) : Statement (.frame g d n p c) := fun h => by
  have h : p.length ≤ 63 := h
  simp only [encode, wireBytes_length, longestWord, Config.maxHostPayload, extraBytes]
  omega

end Sys2Proof.Laws.EncodedSize
end

