-- ==== Sys2Proof/Laws/Receive.lean ====
section
/-!
SUPPORT. The receive step: when it seals, what it makes of the flags.
-/

namespace Sys2Proof.Machine

/-- A cursor below 127 does not wrap (R14, R64). -/
theorem cursor_succ {c : Cursor} (h : c.toNat < 127) : (c + 1#7).toNat = c.toNat + 1 := by
  simp [BitVec.toNat_add]
  omega

theorem crcAfter_covered {c : Nat} {l : PayloadLen} (h : c < 2 ∨ c < l.toNat + 2) (x : Word16) (b : Byte) :
    crcAfter c l x b = crc16Update x b := by
  rw [crcAfter, if_pos]
  simpa [accumulates] using h

theorem crcAfter_trailer {c : Nat} {l : PayloadLen} (h2 : 2 ≤ c) (h : l.toNat + 2 ≤ c) (x : Word16) (b : Byte) :
    crcAfter c l x b = x := by
  rw [crcAfter, if_neg]
  simp [accumulates]
  omega

theorem lenAfter_one (l : PayloadLen) (b : Byte) : lenAfter 1 l b = lengthField b := rfl

theorem lenAfter_other {c : Nat} (h : c ≠ 1) (l : PayloadLen) (b : Byte) : lenAfter c l b = l := by
  simp [lenAfter, h]

/-- The natural-length test after a byte has been taken. -/
theorem State.takeByte_atNaturalLength {s : State} (h : s.rxCursor.toNat < 127) :
    s.takeByte.atNaturalLength =
      decide (s.rxCursor.toNat + 1 = (lenAfter s.rxCursor.toNat s.rxLen s.fifoReply).toNat + 4) := by
  show ((s.rxCursor + 1#7).toNat == _) = _
  rw [cursor_succ h, beq_eq_decide]
  rfl

/-- The seal condition after a byte has been taken (R72). -/
theorem State.takeByte_sealDue {s : State} (h : s.rxCursor.toNat < 127) :
    s.takeByte.sealDue =
      decide (s.rxCursor.toNat + 1 = (lenAfter s.rxCursor.toNat s.rxLen s.fifoReply).toNat + 4 ∨
        s.rxCursor.toNat + 1 = s.params.maxPacket) := by
  rw [State.sealDue, State.takeByte_atNaturalLength h, Bool.decide_or]
  show (_ || ((s.rxCursor + 1#7).toNat == _)) = _
  rw [cursor_succ h, beq_eq_decide]
  rfl

/-- A receive step stores one byte and then either seals or does not. -/
theorem receiveStep_cases {s t : State} (h : receiveStep s = .next t) :
    s.rxCursor.toNat < s.params.maxPacket ∧
    (s.takeByte.sealDue = false ∧ t = s.takeByte ∨ s.takeByte.sealDue = true ∧ t = s.takeByte.sealFrame) := by
  obtain ⟨hc, rfl⟩ := receiveStep_next.1 h
  refine ⟨hc, ?_⟩
  unfold State.sealIfDue
  cases hd : s.takeByte.sealDue <;> simp

/-- `validate` is equality with the trailer (R63). -/
theorem validate_iff {c : Word16} {hi lo : Byte} : validate c hi lo = true ↔ c = bigEndian hi lo := by
  simp [validate, BitVec.xor_eq_zero_iff]

end Sys2Proof.Machine
end

