-- ==== Sys2Proof/Laws/Step.lean ====
section
/-!
SUPPORT. What one step can do: an inversion of `step`, and that fetching changes nothing but the list of inputs.
-/

namespace Sys2Proof.Machine

/-- The state a fetch leaves. -/
def Fetched.state : Fetched → State
  | .word _ _ s | .proceed s | .timeout s | .reset s | .nothing s => s

theorem fetchHost_state (s : State) : ∃ e, (fetchHost s).state = { s with env := e } := by
  unfold fetchHost
  split
  · split
    · exact ⟨_, rfl⟩
    · exact ⟨s.env, rfl⟩
  · exact ⟨s.env, rfl⟩
  · exact ⟨s.env, rfl⟩

/-- Fetching takes inputs and touches nothing else. -/
theorem fetch_state (s : State) : ∃ e, (fetch s).state = { s with env := e } := by
  unfold fetch
  split
  next t ts _ =>
    cases t
    case host => exact fetchHost_state (s.withTurns ts)
    all_goals exact ⟨_, rfl⟩
  · exact ⟨s.env, rfl⟩

/-- Everything a step that answers a next state can be. -/
theorem step_next {s t : State} (h : step s = .next t) :
    (∃ p w s' i rest, fetch s = .word p w s' ∧ decode p w = .ok i rest ∧ exec i s' = .next t) ∨
    (∃ s', fetch s = .proceed s' ∧ hostProceed s' = .next t) ∨
    (∃ s', fetch s = .timeout s' ∧ t = hostTimeout s') ∨
    (∃ s', fetch s = .reset s' ∧ t = hardwareReset s') ∨
    (∃ s', fetch s = .nothing s' ∧ t = s') := by
  unfold step at h
  split at h
  next p w s' hf =>
    split at h
    next i rest hd => exact .inl ⟨p, w, s', i, rest, hf, hd, h⟩
    · simp at h
  next s' hf => exact .inr (.inl ⟨s', hf, h⟩)
  next s' hf => exact .inr (.inr (.inl ⟨s', hf, by simpa using h.symm⟩))
  next s' hf => exact .inr (.inr (.inr (.inl ⟨s', hf, by simpa using h.symm⟩)))
  next s' hf => exact .inr (.inr (.inr (.inr ⟨s', hf, by simpa using h.symm⟩)))

/-- A word is fetched at a host turn only when no operation is in progress, and the irq word is the asserted line. -/
theorem fetch_word {s s' : State} {p : Port} {w : List Byte} (h : fetch s = .word p w s') :
    s' = { s with env := s'.env } ∧ (p = .host → s.hostPhase = .none) ∧ (p = .irq → w = [1]) := by
  obtain ⟨e, he⟩ := fetch_state s
  rw [h] at he
  have hs : s' = { s with env := e } := he
  refine ⟨by rw [hs], ?_⟩
  clear he hs
  unfold fetch at h
  cases ht : s.env.turns with
  | nil => simp [ht] at h
  | cons t ts =>
    rw [ht] at h
    cases t <;> simp_all [fetchTurn, fetchHost]
    · split at h
      next hp =>
        split at h <;> simp_all
        intro hp'; simp [← h.1] at hp'
      · simp at h
      · simp at h
    all_goals (obtain ⟨rfl, -, -⟩ := h; simp)

/-- What `exec` can do with a next state, one case per instruction. -/
theorem exec_next {i : Instr} {s t : State} (h : exec i s = .next t) :
    (∃ b g n, i = .construct b g n ∧ execConstruct b g n s = .next t) ∨
    (i = .beginOp ∧ execBeginOp s = .next t) ∨
    (i = .canTransmit ∧ execCanTransmit s = .next t) ∨
    (∃ d a p, i = .writeFrame d a p ∧ s.hostPhase = .none ∧ s.constructed = true ∧
      t = { s with hostPhase := .writeWaiting d a p }) ∨
    (i = .pollFrame ∧ execPollFrame s = .next t) ∨
    (i = .irq ∧ execIrq s = .next t) ∨
    (i.port = .treq ∧ ∃ e, t = { s with trace := s.trace ++ [e], env := t.env } ∧ (e = .sleep ↔ i = .tSleep)) ∨
    ((i.port = .header ∨ i.port = .frame) ∧ t = { s with env := t.env }) := by
  cases i with
  | construct b g n => exact .inl ⟨b, g, n, rfl, h⟩
  | beginOp => exact .inr (.inl ⟨rfl, h⟩)
  | canTransmit => exact .inr (.inr (.inl ⟨rfl, h⟩))
  | writeFrame d a p =>
    simp only [exec, execWriteFrame, State.asHost_next, State.withIdentity_next, Host.Outcome.next.injEq] at h
    exact .inr (.inr (.inr (.inl ⟨d, a, p, rfl, h.1, h.2.1, h.2.2.symm⟩)))
  | pollFrame => exact .inr (.inr (.inr (.inr (.inl ⟨rfl, h⟩))))
  | irq => exact .inr (.inr (.inr (.inr (.inr (.inl ⟨rfl, h⟩)))))
  | reserved5 => simp [exec, execReserved5] at h
  | reserved6 => simp [exec, execReserved6] at h
  | reserved7 => simp [exec, execReserved7] at h
  | tConfig =>
    simp only [exec, execTConfig, Host.Outcome.next.injEq] at h
    subst h
    obtain ⟨band, groupId, hr⟩ := s.configRequest_eq
    exact .inr (.inr (.inr (.inr (.inr (.inr (.inl ⟨rfl, _, rfl, by simp [hr]⟩))))))
  | header d n l =>
    simp only [exec, execHeader, Host.Outcome.next.injEq] at h
    subst h
    exact .inr (.inr (.inr (.inr (.inr (.inr (.inr ⟨.inl rfl, rfl⟩))))))
  | frame g d n p c =>
    simp only [exec, execFrame, Host.Outcome.next.injEq] at h
    subst h
    exact .inr (.inr (.inr (.inr (.inr (.inr (.inr ⟨.inr rfl, rfl⟩))))))
  | _ =>
    simp only [exec, execTIdle, execTSleep, execTRxOn, execTTxOn, execTFifoRead, execTFifoWrite, execTStatusRead,
      execTFifoDrain, Host.Outcome.next.injEq] at h
    subst h
    exact .inr (.inr (.inr (.inr (.inr (.inr (.inl ⟨rfl, _, rfl, by simp⟩))))))

end Sys2Proof.Machine
end

