-- ==== Sys2Proof/Machine/TraceText.lean ====
section
/-!
DEFINITION. The textual notation of operations, results, the request trace and the state (30_encoding.md R54, the opening of
95_test_vectors.md). The block has no text; these functions only write its data the way the spec does.
-/

namespace Sys2Proof.Machine

/-- A hexadecimal digit, capital letters. -/
def hexDigit (n : Nat) : Char := Char.ofNat (if n < 10 then 48 + n else 55 + n)

/-- `n` hexadecimal digits of a number. -/
def hexText : Nat → Nat → String
  | 0, _ => ""
  | k + 1, v => (hexText k (v / 16)).push (hexDigit (v % 16))

/-- A byte: two hexadecimal digits. -/
def byteText (b : Byte) : String := hexText 2 b.toNat

/-- A byte sequence. -/
def bytesText (bytes : List Byte) : String := " ".intercalate (bytes.map byteText)

/-- A flag. -/
def flagText (b : Bool) : String := if b then "1" else "0"

/-- A text in braces. -/
def inBraces (t : String) : String := "".push (Char.ofNat 123) ++ t ++ "".push (Char.ofNat 125)

/-- One entry of the request trace. `CONFIG` is written without its data. -/
def Request.text : Request → String
  | .idle => "IDLE"
  | .sleep => "SLEEP"
  | .rxOn => "RX_ON"
  | .txOn => "TX_ON"
  | .fifoRead reply => "FIFO_READ->" ++ byteText reply
  | .fifoWrite data => "FIFO_WRITE(" ++ byteText data ++ ")"
  | .statusRead reply => "STATUS_READ->" ++ flagText reply
  | .fifoDrain => "FIFO_DRAIN"
  | .config _ _ => "CONFIG"

/-- The request trace. -/
def traceText (trace : List Request) : String := ", ".intercalate (trace.map Request.text)

/-- An operation, up to its draws; the names of the bands are not in the source, so they are an argument. The rows that are
no operation have no line. -/
def operationText (bandName : Band → String) : Instr → Option String
  | .construct band groupId nodeId =>
    some ("CONSTRUCT band=" ++ bandName band ++ " group=" ++ toString groupId.toNat ++ " node=" ++ toString nodeId.toNat)
  | .beginOp => some "BEGIN"
  | .canTransmit => some "CAN_TRANSMIT"
  | .writeFrame destination anonymous payload =>
    some ("WRITE_FRAME dest=" ++ toString destination.toNat ++ " anon=" ++ flagText anonymous ++ " payload=" ++ bytesText payload)
  | .pollFrame => some "POLL_FRAME"
  | .irq => some "IRQ"
  | .reserved5 | .reserved6 | .reserved7 => none
  | .tIdle | .tSleep | .tRxOn | .tTxOn | .tFifoRead | .tFifoWrite _ | .tStatusRead | .tFifoDrain | .tConfig => none
  | .header _ _ _ | .frame _ _ _ _ _ => none

/-- A result of `WRITE_FRAME`. -/
def WStatus.text : WStatus → String
  | .ok => "Ok"
  | .channelBusy => "ChannelBusy"
  | .staleReceptionStall => "StaleReceptionStall"

/-- A frame that `POLL_FRAME` returns. -/
def ReceivedFrame.text (f : ReceivedFrame) : String :=
  "Some" ++ inBraces ("sender=" ++ toString f.sender.toNat ++ ", destination=" ++ toString f.destination.toNat ++
    ", payload=" ++ bytesText f.payload)

/-- A result; `CONSTRUCT` and `BEGIN` have none. -/
def HostReturn.text : HostReturn → Option String
  | .noResult => none
  | .clear c => some ("clear=" ++ flagText c)
  | .wStatus w => some w.text
  | .polled none => some "None"
  | .polled (some f) => some f.text

/-- A part of a line, if there is one. -/
def partText (label : String) : Option String → String
  | none => ""
  | some t => label ++ t

/-- The line of one operation: the operation, its draws, its result. -/
def lineText (bandName : Band → String) (i : Instr) (status : Option Bool) (fifo : Option Byte) (result : Option HostReturn) :
    Option String :=
  (operationText bandName i).map fun operation =>
    operation ++ partText " status=" (status.map flagText) ++ partText " fifo=" (fifo.map byteText) ++
      partText " -> " (result.bind HostReturn.text)

/-- The name of a link state (R10). -/
def LinkState.text : LinkState → String
  | .idle => "Idle"
  | .listening => "Listening"
  | .receiving => "Receiving"
  | .receiveComplete => "ReceiveComplete"
  | .sending => "Sending"

/-- A state, as the vectors write it. -/
def State.text (s : State) : String :=
  s.linkState.text ++ " cur=" ++ toString s.rxCursor.toNat ++ " len=" ++ toString s.rxLen.toNat ++
    " crc=" ++ hexText 4 s.rxCrc.toNat ++ " av=" ++ flagText s.rxAvailable ++ " ok=" ++ flagText s.rxCrcValid ++
    " txLen=" ++ toString s.txLen.toNat ++ " txCur=" ++ toString s.txCursor.toNat

end Sys2Proof.Machine
end

