-- ==== Sys2Proof/Tests/Slice0.lean ====
section
/-!
SUPPORT. Tests on fixed values and witnesses that the hypotheses of the statements can be met. Every expected number is
from 95_test_vectors.md or from the rule named.
-/

namespace Sys2Proof.Tests

open Sys2Proof Sys2Proof.Machine

/-! ## Ill-formed instructions are refused -/

theorem test_writeFrame_too_long : ¬ (Instr.writeFrame 9 false (List.replicate 256 0)).WellFormed := by
  rw [Instr.WellFormed, List.length_replicate]
  decide
theorem test_writeFrame_longest : (Instr.writeFrame 9 false (List.replicate 255 0)).WellFormed := by
  rw [Instr.WellFormed, List.length_replicate]
  decide
theorem test_frame_too_long : ¬ (Instr.frame 212 9 5 (List.replicate 64 0) 0).WellFormed := by decide
theorem test_frame_longest : (Instr.frame 212 9 5 (List.replicate 63 0) 0).WellFormed := by decide

/-! ## Words written out from R45, R46, R49 to R51 -/

theorem test_decode_construct : decode .host [0, 0, 0xD4, 5] = .ok (.construct 0 212 5) [] := by decide
/-- A band whose number needs two bytes (log 3): 255 + 1. -/
theorem test_decode_wide_band : decode .host [0, 0xFF, 1, 0xD4, 5] = .ok (.construct 256 212 5) [] := by decide
theorem test_decode_begin : decode .host [1] = .ok .beginOp [] := by decide
theorem test_decode_canTransmit : decode .host [2] = .ok .canTransmit [] := by decide
theorem test_decode_writeFrame :
    decode .host [3, 9, 1, 2, 0x68, 0x69, 0xEE] = .ok (.writeFrame 9 true [0x68, 0x69]) [0xEE] := by decide
theorem test_decode_pollFrame : decode .host [4] = .ok .pollFrame [] := by decide
theorem test_decode_reserved5 : decode .host [5] = .ok .reserved5 [] := by decide
theorem test_decode_reserved6 : decode .host [6] = .ok .reserved6 [] := by decide
theorem test_decode_reserved7 : decode .host [7] = .ok .reserved7 [] := by decide
theorem test_decode_beyond_port : decode .host [8] = .error .beyondHostPort := by decide
theorem test_decode_truncated : decode .host [3, 9, 0, 2, 0x68] = .error .truncated := by decide
theorem test_decode_irq : decode .irq [1] = .ok .irq [] := by decide
/-- Bits 7 to 1 are not looked at (log 3). -/
theorem test_decode_irq_other_bits : decode .irq [3] = .ok .irq [] ∧ decode .irq [2] = .error .noEvent := by decide
theorem test_decode_no_event : decode .irq [0] = .error .noEvent := by decide
theorem test_decode_tIdle : decode .treq [0] = .ok .tIdle [] := by decide
theorem test_decode_tSleep : decode .treq [1] = .ok .tSleep [] := by decide
theorem test_decode_tRxOn : decode .treq [2] = .ok .tRxOn [] := by decide
theorem test_decode_tTxOn : decode .treq [3] = .ok .tTxOn [] := by decide
theorem test_decode_tFifoRead : decode .treq [4] = .ok .tFifoRead [] := by decide
theorem test_decode_tFifoWrite : decode .treq [5, 0x49] = .ok (.tFifoWrite 0x49) [] := by decide
theorem test_decode_tStatusRead : decode .treq [6] = .ok .tStatusRead [] := by decide
theorem test_decode_tFifoDrain : decode .treq [7] = .ok .tFifoDrain [] := by decide
theorem test_decode_tConfig : decode .treq [8] = .ok .tConfig [] := by decide
theorem test_decode_never_issued : decode .treq [9] = .error .neverIssued := by decide
/-- V-H8, V-H10. -/
theorem test_decode_header :
    decode .header [0x84, 0x20] = .ok (.header 16 16 32) [] ∧ decode .header [0x07, 0xC0] = .ok (.header 0 31 0) [] := by
  decide
/-- V-TX5. -/
theorem test_decode_frame :
    decode .frame [0xAA, 0xAA, 0xAA, 0x2D, 0x2D, 0x10, 0x41, 0x41, 0x65, 0x80, 0xAA, 0xAA, 0xAA] =
      .ok (.frame 45 2 1 [0x41] 0x6580) [] := by decide
theorem test_decode_frame_no_sync :
    decode .frame [0xAA, 0xAA, 0xAA, 0x2C, 0x01, 0x07, 0xC0, 0xD0, 0x03, 0xAA, 0xAA, 0xAA] = .error .notAFrame := by
  decide
/-- D21: of a byte on a 5-bit port the low bits are taken (41 & 31 = 9). -/
theorem test_decode_masks : decode .host [3, 41, 0, 0] = .ok (.writeFrame 9 false []) [] := by decide
/-- R31: `header_hi` is the high byte of the 16-bit header. -/
theorem test_table_word_header : decodeTableWord 16 0x4942 = some (.header 9 5 2) := by decide
theorem test_table_word_host : decodeTableWord 8 2 = some .canTransmit := by decide
theorem test_encode_frame :
    encode (.frame 0xD4 9 5 [0x68, 0x69] 0x8259) =
      [0xAA, 0xAA, 0xAA, 0x2D, 0xD4, 0x49, 0x42, 0x68, 0x69, 0x82, 0x59, 0xAA, 0xAA, 0xAA] := by decide

/-! ## Codec vectors -/

/-- V-C4, V-C7, V-C11, V-C13. -/
theorem test_crc_update :
    crc16Update 0xFFFF 0x49 = 0xB67E ∧ crc16Update 0 1 = 0xC0C1 ∧ crc16Update 0x8000 0 = 0x0080 ∧
    crc16Update 0x1234 0x56 = 0xE993 := by decide
/-- The eight steps of V-C4. -/
theorem test_crc_steps :
    (List.range 9).map (fun k => crcShifts k 0xFFB6) =
      [0xFFB6, 0x7FDB, 0x9FEC, 0x4FF6, 0x27FB, 0xB3FC, 0x59FE, 0x2CFF, 0xB67E] := by decide
/-- V-C21, V-C22, V-C26, V-C29. -/
theorem test_crc16 :
    crc16 [0x31, 0x32, 0x33, 0x34, 0x35, 0x36, 0x37, 0x38, 0x39] = 0x4B37 ∧ crc16 [0x49, 0x42, 0x68, 0x69] = 0x8259 ∧
    crc16 [0x38, 0xC2, 0x00, 0xFF] = 0xF8EC ∧ crc16 [0xFF, 0xC1, 0xFF] = 0x2050 := by
  decide +kernel
/-- V-C30. -/
theorem test_crc16_longest : crc16 (0x49 :: 0x7F :: (List.range 63).map (BitVec.ofNat 8)) = 0x84BD := by decide +kernel
/-- V-H1, V-H7, V-H8, V-H12. -/
theorem test_packHeader :
    packHeader 9 5 2 = (0x49, 0x42) ∧ packHeader 21 10 42 = (0xAA, 0xAA) ∧ packHeader 16 16 32 = (0x84, 0x20) ∧
    packHeader 5 9 2 = (0x2A, 0x42) := by decide
/-- V-TX2, an anonymous send; V-TX3, an empty payload. -/
theorem test_encodeFrame :
    encodeFrame 75 0xD4 9 none [0x68, 0x69] =
      [0xAA, 0xAA, 0xAA, 0x2D, 0xD4, 0x48, 0x02, 0x68, 0x69, 0xAA, 0x59, 0xAA, 0xAA, 0xAA] ∧
    encodeFrame 75 1 0 (some 31) [] = [0xAA, 0xAA, 0xAA, 0x2D, 0x01, 0x07, 0xC0, 0xD0, 0x03, 0xAA, 0xAA, 0xAA] := by
  decide +kernel
/-- V-TX4: 100 bytes are cut to 63; the cap `MAX_SIGNAL` cuts the last pad byte. -/
theorem test_encodeFrame_truncates :
    (encodeFrame 75 0xD4 9 (some 5) ((List.range 100).map (BitVec.ofNat 8))).drop 69 = [0x3E, 0x84, 0xBD, 0xAA, 0xAA, 0xAA] ∧
    (encodeFrame 74 0xD4 9 (some 5) ((List.range 100).map (BitVec.ofNat 8))).drop 69 = [0x3E, 0x84, 0xBD, 0xAA, 0xAA] := by
  decide +kernel
/-- V-X2: a flipped bit of the CRC field. -/
theorem test_validate : validate 0x8259 0x82 0x59 = true ∧ validate 0x8259 0x82 0x58 = false := by decide

/-! ## Notation (R54) -/

theorem test_state_text : State.reset.text = "Idle cur=0 len=0 crc=FFFF av=0 ok=0 txLen=0 txCur=0" := by decide
theorem test_trace_text :
    traceText [.rxOn, .fifoRead 0x49, .idle, .fifoDrain, .fifoWrite 0xAA, .statusRead false, .txOn, .config 0 0] =
      "RX_ON, FIFO_READ->49, IDLE, FIFO_DRAIN, FIFO_WRITE(AA), STATUS_READ->0, TX_ON, CONFIG" := by decide
theorem test_line_construct :
    lineText (fun _ => "A") (.construct 0 212 5) none none (some .noResult) = some "CONSTRUCT band=A group=212 node=5" := by
  decide
theorem test_line_writeFrame :
    lineText (fun _ => "A") (.writeFrame 9 false [0x68, 0x69]) (some false) none (some (.wStatus .ok)) =
      some "WRITE_FRAME dest=9 anon=0 payload=68 69 status=0 -> Ok" := by decide

/-! ## Steps on small states -/

/-- The next state of an outcome. -/
def after : Outcome → Option State
  | .next s => some s
  | .fault _ => none
  | .refused _ => none

/-- Node `n` of group 212, begun, in link state `l`. -/
def node (n : NodeId) (l : LinkState) : State := { State.begun 0 212 n with linkState := l }

/-- The same with coming replies. -/
def withReplies (bytes : List Byte) (flags : List Bool) (s : State) : State :=
  { s with env := { s.env with fifoDraws := bytes, statusDraws := flags } }

/-- `rxBuf` or `txBuf` holding these bytes from offset 0. -/
def holding (bytes : List Byte) : Mem := Mem.writeAll [] 0 bytes

/-- Node `n` with `bytes` received, the last of them not yet taken: V-R1 in the middle. -/
def midFrame (n : NodeId) (cursor : Cursor) (len : PayloadLen) (crc : Word16) (bytes : List Byte) (next : Byte) : State :=
  withReplies [next] []
    { node n .receiving with rxCursor := cursor, rxLen := len, rxCrc := crc, rxBuf := holding bytes, trace := [.rxOn] }

/-- Node `n` with the running example sealed (V-R1). -/
def sealedFrame (n : NodeId) : State :=
  { node n .receiveComplete with
    rxLen := 2, rxCrc := 0x8259, rxAvailable := true, rxCrcValid := true
    rxBuf := holding [0x49, 0x42, 0x68, 0x69, 0x82, 0x59]
    trace := [.rxOn, .idle, .fifoDrain] }

/-- Node 5 sending the one-byte frame of P9. -/
def sending (cursor : Cursor) : State :=
  { node 5 .sending with
    txLen := 13, txCursor := cursor
    txBuf := holding [0xAA, 0xAA, 0xAA, 0x2D, 0xD4, 0x49, 0x41, 0x41, 0x76, 0x50, 0xAA, 0xAA, 0xAA]
    trace := [.txOn] }

/-- Put turns before the others. -/
def turning (ts : List Turn) (s : State) : State := { s with env := { s.env with turns := ts } }

/-- V-R1, events 1, 2, 5 and 6 (R66, R68, R70, R73), then V-X2, a wrong trailer, and V-R7, the capacity guard. -/
theorem test_irq_receives :
    (after (exec .irq (withReplies [0x49] [] (node 9 .listening)))).map
      (fun t => (t.linkState, t.rxCursor, t.rxCrc, t.readRx 0, t.trace.getLast?)) =
      some (.receiving, 1, 0xB67E, 0x49, some (.fifoRead 0x49)) ∧
    (after (exec .irq (midFrame 9 1 0 0xB67E [0x49] 0x42))).map (fun t => (t.linkState, t.rxCursor, t.rxLen, t.rxCrc)) =
      some (.receiving, 2, 2, 0x11B6) ∧
    (after (exec .irq (midFrame 9 4 2 0x8259 [0x49, 0x42, 0x68, 0x69] 0x82))).map
      (fun t => (t.linkState, t.rxCursor, t.rxCrc)) = some (.receiving, 5, 0x8259) ∧
    (after (exec .irq (midFrame 9 5 2 0x8259 [0x49, 0x42, 0x68, 0x69, 0x82] 0x59))).map
      (fun t => (t.linkState, t.rxCursor, t.rxAvailable, t.rxCrcValid, t.trace)) =
      some (.receiveComplete, 0, true, true, [.rxOn, .fifoRead 0x59, .idle, .fifoDrain]) ∧
    (after (exec .irq (midFrame 9 5 2 0x8259 [0x49, 0x42, 0x68, 0x69, 0x82] 0x58))).map (·.rxCrcValid) = some false ∧
    (after (exec .irq { midFrame 9 3 2 0x5891 [0x49, 0x42, 0x68] 0x69 with
        params := { Params.decided with maxPacket := 4 } })).map
      (fun t => (t.linkState, t.rxLen, t.rxCrc, t.rxCrcValid)) = some (.receiveComplete, 2, 0x8259, false) :=
  ⟨by decide, by decide, by decide, by decide, by decide, by decide⟩
/-- P1, P9: a pushing event and the completing one. -/
theorem test_irq_transmits :
    (after (exec .irq (sending 3))).map (fun t => (t.txCursor, t.trace)) = some (4, [.txOn, .fifoWrite 0x2D]) ∧
    (after (exec .irq (sending 13))).map (fun t => (t.linkState, t.txCursor, t.trace)) =
      some (.idle, 13, [.txOn, .idle, .fifoWrite 0xAA]) := ⟨by decide, by decide⟩

/-- P1, step 1. -/
theorem test_construct : (after (exec (.construct 0 212 5) State.reset)).map State.text =
    some "Idle cur=0 len=0 crc=FFFF av=0 ok=0 txLen=0 txCur=0" := by decide
/-- P1, step 2. -/
theorem test_begin : (after (exec .beginOp (State.constructedWith 0 212 5))).map (·.trace) = some [.config 0 212] := by decide
/-- U1. -/
theorem test_begin_unset : after (exec .beginOp State.reset) = none := by decide
/-- P5, step 5: the bookkeeping of the aborted frame stays. -/
theorem test_canTransmit_clear :
    (after (exec .canTransmit (withReplies [] [false] (midFrame 9 3 2 0x5891 [0x49, 0x42, 0x68] 0)))).map
      (fun t => (t.linkState, t.rxCursor, t.rxCrc, t.returns.getLast?)) =
      some (.idle, 3, 0x5891, some (.clear true)) := by decide
/-- P4. -/
theorem test_canTransmit_busy :
    (after (exec .canTransmit (withReplies [] [true] (node 5 .listening)))).map
      (fun t => (t.linkState, t.trace.getLast?, t.returns.getLast?)) =
      some (.listening, some (.statusRead true), some (.clear false)) := by decide
/-- P1, step 3: the arming step. -/
theorem test_writeFrame_arms :
    (after (step (turning [.host] (withReplies [] [false]
        { node 5 .idle with hostPhase := .writeArming 9 false [0x68, 0x69] })))).map
      (fun t => (t.linkState, t.txLen, t.txCursor, t.readTx 9, t.returns.getLast?)) =
      some (.sending, 14, 0, 0x82, some (.wStatus .ok)) := by decide +kernel
/-- The call, and P6, step 1: the host is held while a reception is in progress. -/
theorem test_writeFrame_waits :
    (after (exec (.writeFrame 9 false [0x68, 0x69]) (node 5 .idle))).map (·.hostPhase) =
      some (.writeWaiting 9 false [0x68, 0x69]) ∧
    (after (step (turning [.host] { midFrame 9 4 2 0x8259 [0x49, 0x42, 0x68, 0x69] 0x82 with
        hostPhase := .writeWaiting 5 false [0x6F, 0x6B] }))).map (·.hostPhase) =
      some (.writeWaiting 5 false [0x6F, 0x6B]) := ⟨by decide, by decide⟩
/-- P2, step 11. -/
theorem test_poll_returns :
    (after (exec .pollFrame (sealedFrame 9))).map (fun t => (t.linkState, t.rxCrc, t.rxAvailable, t.returns.getLast?)) =
      some (.listening, 0xFFFF, false,
        some (.polled (some { sender := 5, destination := 9, payload := [0x68, 0x69] }))) := by decide
/-- P3. -/
theorem test_poll_misaddressed :
    (after (exec .pollFrame (sealedFrame 7))).map (fun t => (t.raised, t.returns.getLast?)) =
      some ([.misaddressedFrame], some (.polled none)) := by decide

theorem test_tSleep : (after (exec .tSleep State.reset)).map (·.trace) = some [.sleep] := by decide
theorem test_tFifoWrite : (after (exec (.tFifoWrite 0x2D) State.reset)).map (·.trace) = some [.fifoWrite 0x2D] := by decide
theorem test_tFifoRead :
    (after (exec .tFifoRead (withReplies [0x49, 0x42] [] State.reset))).map (fun t => (t.trace, t.env.fifoDraws)) =
      some ([.fifoRead 0x49], [0x42]) := by decide
theorem test_tStatusRead :
    (after (exec .tStatusRead (withReplies [] [true] State.reset))).map (·.trace) = some [.statusRead true] := by decide
theorem test_tConfig : (after (exec .tConfig (node 5 .idle))).map (·.trace) = some [.config 0 212, .config 0 212] := by
  decide
theorem test_header : (after (exec (.header 9 5 2) State.reset)).map (·.env.fifoDraws) = some [0x49, 0x42] := by decide
theorem test_frame :
    (after (exec (.frame 212 9 5 [0x68, 0x69] 0x8259) State.reset)).map (·.env.fifoDraws) =
      some [0x49, 0x42, 0x68, 0x69, 0x82, 0x59] := by decide
/-- A table word is placed where the next step takes it, from reset. -/
theorem test_withFetchWord :
    (after (step (State.reset.withFetchWord 16 0x4942))).map (·.env.fifoDraws) = some [0x49, 0x42] ∧
    (after (step (State.reset.withFetchWord 1 1))).map (·.linkState) = some .idle := by decide

/-! ## Witnesses: for every statement with hypotheses, a state and operands that meet them, one for each clause, at the
boundary of a clause's range. -/

theorem wit_HardwareResetValues : ∃ s ts, (s : State).env.turns = .reset :: ts ∧ s.hostPhase ≠ .none :=
  ⟨turning [.reset] { node 5 .receiving with hostPhase := .writeWaiting 9 false [] }, [], by decide⟩

theorem wit_StepRunsDecodedInstruction :
    (∃ (s : State) (w : List Byte) (i : Instr), i.WellFormed ∧ s.env.turns = .host :: [] ∧ s.hostPhase = .none ∧
      s.env.hostCalls = w :: [] ∧ decode .host w = .ok i []) ∧
    (∃ s : State, s.env.turns = .irq :: []) ∧
    (∃ (s : State) (w : List Byte) (i : Instr), i.WellFormed ∧ s.env.turns = .exchange w :: [] ∧ decode .treq w = .ok i []) ∧
    (∃ (s : State) (w : List Byte) (i : Instr), i.WellFormed ∧ s.env.turns = .header w :: [] ∧ decode .header w = .ok i []) ∧
    (∃ (s : State) (w : List Byte) (i : Instr), i.WellFormed ∧ s.env.turns = .frame w :: [] ∧ decode .frame w = .ok i []) :=
  ⟨⟨State.reset.withTurns [.host] |>.withCalls [[2]], [2], .canTransmit, by decide⟩,
   ⟨State.reset.withTurns [.irq], by decide⟩,
   ⟨State.reset.withTurns [.exchange [5, 0xAA]], [5, 0xAA], .tFifoWrite 0xAA, by decide⟩,
   ⟨State.reset.withTurns [.header [0x49, 0x42]], [0x49, 0x42], .header 9 5 2, by decide⟩,
   ⟨State.reset.withTurns [.frame [0xAA, 0xAA, 0xAA, 0x2D, 0x01, 0x07, 0xC0, 0xD0, 0x03, 0xAA, 0xAA, 0xAA]],
    [0xAA, 0xAA, 0xAA, 0x2D, 0x01, 0x07, 0xC0, 0xD0, 0x03, 0xAA, 0xAA, 0xAA], .frame 1 0 31 [] 0xD003, by decide⟩⟩

theorem wit_NothingToDoLeavesTheState :
    (∃ s : State, s.env.turns = []) ∧
    (∃ s : State, s.env.turns = .host :: [] ∧ s.hostPhase = .none ∧ s.env.hostCalls = []) :=
  ⟨⟨State.reset, by decide⟩, ⟨State.reset.withTurns [.host], by decide⟩⟩

theorem wit_DecodeInvertsEncode :
    (Instr.frame 212 9 5 (List.replicate 63 0xAA) 0x84BD).WellFormed ∧ (Instr.writeFrame 31 true []).WellFormed := by decide

theorem wit_DecodedInstructionIsWellFormed : ∃ (p : Port) (w rest : List Byte) (i : Instr), decode p w = .ok i rest :=
  ⟨.host, [3, 9, 1, 1, 0x41, 0x04], [0x04], .writeFrame 9 true [0x41], by decide⟩

theorem wit_CrcDetectsOneChangedByte : ∃ b b' : Byte, b ≠ b' := ⟨0x68, 0x69, by decide⟩

theorem wit_OversizePayloadIsTruncated : ∃ (m : Nat) (p : List Byte), 63 ≤ p.length ∧ 7 ≤ m :=
  ⟨7, List.replicate 63 0, by decide⟩

/-- Node ids 1 and 31, the first and the last band. -/
theorem wit_ConstructLoadsIdentity :
    (∃ (s : State) (b : Band) (n : NodeId), s.hostPhase = .none ∧ b < s.params.bandCount ∧ n ≠ 0 ∧ n.toNat = 1) ∧
    (∃ (s : State) (b : Band) (n : NodeId), s.hostPhase = .none ∧ b + 1 = s.params.bandCount ∧ n ≠ 0 ∧ n.toNat = 31) :=
  ⟨⟨State.reset, 0, 1, rfl, Nat.succ_pos _, by decide⟩, ⟨State.reset, Config.otherBands, 31, rfl, rfl, by decide⟩⟩

/-- Also for `NamedPremisesFollow`, which starts from this state. -/
theorem wit_ConstructRunsNodeZero : ∃ (s : State) (b : Band), s.hostPhase = .none ∧ b < s.params.bandCount :=
  ⟨State.afterReset, 0, rfl, Nat.succ_pos _⟩

theorem wit_ConstructReducesBandNumber :
    ∃ (s : State) (b : Band), s.hostPhase = .none ∧ 1 ≤ s.params.bandCount ∧ b = s.params.bandCount :=
  ⟨State.reset, State.reset.params.bandCount, rfl, Nat.succ_pos _, rfl⟩

theorem wit_BeginConfiguresAndIdles :
    (∃ s : State, s.hostPhase = .none ∧ s.constructed = true) ∧ (∃ s : State, s.hostPhase = .none ∧ s.constructed = false) :=
  ⟨⟨State.constructedWith 0 212 5, by decide⟩, ⟨State.reset, by decide⟩⟩

/-- `BEGIN`, `WRITE_FRAME`, `POLL_FRAME`. -/
theorem wit_RefusedBeforeConstruct : ∃ s : State, s.constructed = false ∧ s.hostPhase = .none :=
  ⟨State.reset, by decide⟩

theorem wit_CanTransmitBusyAndClear :
    (∃ s : State, s.hostPhase = .none ∧ s.carrierReply = true) ∧ (∃ s : State, s.hostPhase = .none ∧ s.carrierReply = false) :=
  ⟨⟨withReplies [] [true] (node 5 .listening), by decide⟩, ⟨withReplies [] [false] (node 5 .sending), by decide⟩⟩

theorem wit_WriteFrameWaitPhase :
    (∃ s : State, s.hostPhase = .none ∧ s.constructed = true) ∧
    (∃ s : State, s.hostPhase = .writeWaiting 9 false [] ∧ s.env.turns = .host :: [] ∧ s.linkState ≠ .receiving) ∧
    (∃ s : State, s.hostPhase = .writeWaiting 9 false [] ∧ s.env.turns = .host :: [] ∧ s.linkState = .receiving) ∧
    (∃ s : State, s.hostPhase = .writeWaiting 9 false [] ∧ s.env.turns = .timeout :: [] ∧ s.linkState = .receiving ∧
      s.params.spinTimeoutEnable = true) ∧
    (∃ s : State, s.env.turns = .timeout :: [] ∧ s.params.spinTimeoutEnable = false) ∧
    (∃ s : State, s.env.turns = .timeout :: [] ∧ s.params.spinTimeoutEnable = true ∧
      s.hostPhase = .writeArming 9 false [] ∧ s.linkState = .receiving) ∧
    (∃ s : State, s.env.turns = .timeout :: [] ∧ s.params.spinTimeoutEnable = true ∧
      s.hostPhase = .writeWaiting 9 false [] ∧ s.linkState ≠ .receiving) :=
  ⟨⟨node 5 .sending, by decide⟩,
   ⟨turning [.host] { node 5 .receiveComplete with hostPhase := .writeWaiting 9 false [] }, by decide⟩,
   ⟨turning [.host] { node 5 .receiving with hostPhase := .writeWaiting 9 false [] }, by decide⟩,
   ⟨turning [.timeout] { node 5 .receiving with
      hostPhase := .writeWaiting 9 false [], params := { Params.decided with spinTimeoutEnable := true } }, by decide⟩,
   ⟨turning [.timeout] (node 5 .receiving), by decide⟩,
   ⟨turning [.timeout] { node 5 .receiving with
      hostPhase := .writeArming 9 false [], params := { Params.decided with spinTimeoutEnable := true } }, by decide⟩,
   ⟨turning [.timeout] { node 5 .receiveComplete with
      hostPhase := .writeWaiting 9 false [], params := { Params.decided with spinTimeoutEnable := true } }, by decide⟩⟩

theorem wit_WriteFrameArmingStep :
    (∃ s : State, s.hostPhase = .writeArming 9 false [0x68] ∧ s.env.turns = .host :: [] ∧
      s.carrierReply = true) ∧
    (∃ s : State, s.hostPhase = .writeArming 9 true [] ∧ s.env.turns = .host :: [] ∧
      s.carrierReply = false ∧ s.linkState = .receiving) :=
  ⟨⟨turning [.host] (withReplies [] [true] { node 5 .idle with hostPhase := .writeArming 9 false [0x68] }), by decide⟩,
   ⟨turning [.host] (withReplies [] [false] { node 5 .receiving with hostPhase := .writeArming 9 true [] }), by decide⟩⟩

/-- Also for `FrameIsHandedWhole`, which has the same hypotheses. -/
theorem wit_ArmingStoresOnlyTheFrame :
    ∃ s t : State, s.params.Valid ∧ s.hostPhase = .writeArming 9 false [0x68, 0x69] ∧ s.env.turns = .host :: [] ∧
      s.carrierReply = false ∧ step s = .next t :=
  ⟨turning [.host] (withReplies [] [false] { node 5 .idle with hostPhase := .writeArming 9 false [0x68, 0x69] }), _,
    by decide, by decide, by decide, by decide, rfl⟩

theorem wit_PollFrameInEveryState :
    (∃ s : State, s.hostPhase = .none ∧ s.constructed = true ∧ s.linkState = .idle) ∧
    (∃ s : State, s.hostPhase = .none ∧ s.constructed = true ∧ s.linkState = .receiveComplete ∧ s.rxAvailable = true ∧
      (decodeHeader (s.readRx 0) (s.readRx 1)).destination = s.nodeId ∧ s.rxCrcValid = true ∧
      (decodeHeader (s.readRx 0) (s.readRx 1)).length.toNat + 2 = s.params.maxPacket) ∧
    (∃ s : State, s.hostPhase = .none ∧ s.constructed = true ∧ s.linkState = .receiveComplete ∧ s.rxAvailable = true ∧
      ¬ (((decodeHeader (s.readRx 0) (s.readRx 1)).destination = s.nodeId ∨
        (decodeHeader (s.readRx 0) (s.readRx 1)).destination = 0) ∧ s.rxCrcValid = true)) ∧
    (∃ s : State, s.hostPhase = .none ∧ s.constructed = true ∧ s.linkState = .sending) ∧
    (∃ s : State, s.hostPhase = .none ∧ s.constructed = true ∧ s.linkState = .receiveComplete ∧ s.rxAvailable = false) :=
  ⟨⟨node 5 .idle, by decide⟩,
   ⟨{ sealedFrame 9 with params := { Params.decided with maxPacket := 4 } }, by decide⟩,
   ⟨sealedFrame 7, by decide⟩, ⟨node 5 .sending, by decide⟩, ⟨node 5 .receiveComplete, by decide⟩⟩

theorem wit_MisaddressedFrameIsDropped :
    ∃ s : State, s.hostPhase = .none ∧ s.constructed = true ∧ s.linkState = .receiveComplete ∧ s.rxAvailable = true ∧
      (decodeHeader (s.readRx 0) (s.readRx 1)).destination ≠ s.nodeId ∧
      (decodeHeader (s.readRx 0) (s.readRx 1)).destination ≠ 0 :=
  ⟨sealedFrame 7, by decide⟩

theorem wit_DamagedFrameIsDropped :
    (∃ s : State, s.hostPhase = .none ∧ s.constructed = true ∧ s.linkState = .receiveComplete ∧ s.rxAvailable = true ∧
      (decodeHeader (s.readRx 0) (s.readRx 1)).destination = s.nodeId ∧ s.rxCrcValid = false ∧
      s.rxLen.toNat + 4 = s.params.maxPacket) ∧
    (∃ s : State, s.hostPhase = .none ∧ s.constructed = true ∧ s.linkState = .receiveComplete ∧ s.rxAvailable = true ∧
      (decodeHeader (s.readRx 0) (s.readRx 1)).destination = s.nodeId ∧ s.rxCrcValid = false ∧
      s.params.maxPacket + 1 = s.rxLen.toNat + 4) :=
  ⟨⟨{ sealedFrame 9 with rxCrcValid := false, params := { Params.decided with maxPacket := 6 } }, by decide⟩,
   ⟨{ sealedFrame 9 with rxCrcValid := false, params := { Params.decided with maxPacket := 5 } }, by decide⟩⟩

theorem wit_ReservedHostCodesRefused :
    (∃ (s : State) (b : Byte), s.env.turns = .host :: [] ∧ s.hostPhase = .none ∧ s.env.hostCalls = [b] :: [] ∧
      b.toNat = 8) ∧
    (∃ (s : State) (b : Byte), s.env.turns = .exchange [b] :: [] ∧ b.toNat = 9) :=
  ⟨⟨State.reset.withTurns [.host] |>.withCalls [[8]], 8, by decide⟩, ⟨State.reset.withTurns [.exchange [9]], 9, by decide⟩⟩

theorem wit_HeldHostStartsNothing : ∃ s t : State, s.hostPhase ≠ .none ∧ step s = .next t :=
  ⟨turning [.host] { node 5 .receiving with hostPhase := .writeWaiting 9 false [] }, _, by decide, rfl⟩

theorem wit_EventIsNoOpWhenInactive :
    (∃ s : State, s.linkState = .idle) ∧ (∃ s : State, s.linkState = .receiveComplete) :=
  ⟨⟨State.reset, by decide⟩, ⟨sealedFrame 9, by decide⟩⟩

theorem wit_HeaderByteIsStored :
    (∃ s : State, s.params.Valid ∧ s.linkState = .listening ∧ s.rxCursor.toNat < 2) ∧
    (∃ s : State, s.params.Valid ∧ s.linkState = .receiving ∧ s.rxCursor.toNat = 1 ∧ s.params.maxPacket = 4) :=
  ⟨⟨node 9 .listening, by decide⟩,
   ⟨{ midFrame 9 1 0 0xB67E [0x49] 0x42 with params := { Params.decided with maxPacket := 4 } }, by decide⟩⟩

theorem wit_PayloadByteIsStored :
    (∃ s : State, s.params.Valid ∧ s.linkState = .receiving ∧ 2 = s.rxCursor.toNat ∧
      s.rxCursor.toNat ≤ s.rxLen.toNat + 1 ∧ s.rxCursor.toNat + 1 < s.params.maxPacket) ∧
    (∃ s : State, s.params.Valid ∧ s.linkState = .receiving ∧ 2 ≤ s.rxCursor.toNat ∧
      s.rxCursor.toNat = s.rxLen.toNat + 1 ∧ s.rxCursor.toNat + 1 < s.params.maxPacket) :=
  ⟨⟨midFrame 9 2 2 0x11B6 [0x49, 0x42] 0x68, by decide⟩, ⟨midFrame 9 64 63 0 [] 0x3E, by decide⟩⟩

theorem wit_TrailerByteIsNotAccumulated :
    (∃ s : State, s.params.Valid ∧ s.linkState = .receiving ∧ s.rxCursor.toNat = s.rxLen.toNat + 2 ∧
      s.rxCursor.toNat + 1 < s.params.maxPacket) ∧
    (∃ s : State, s.params.Valid ∧ s.linkState = .receiving ∧ s.rxCursor.toNat = s.rxLen.toNat + 2 ∧
      s.rxCursor.toNat + 2 = s.params.maxPacket) :=
  ⟨⟨midFrame 9 2 0 0xD003 [0x07, 0xC0] 0xD0, by decide⟩, ⟨midFrame 9 65 63 0x84BD [] 0x84, by decide⟩⟩

theorem wit_LastByteSealsTheFrame :
    (∃ s : State, s.params.Valid ∧ s.linkState = .receiving ∧ s.rxCursor.toNat = s.rxLen.toNat + 3 ∧
      s.rxCursor.toNat < s.params.maxPacket) ∧
    (∃ s : State, s.params.Valid ∧ s.linkState = .receiving ∧ s.rxCursor.toNat = s.rxLen.toNat + 3 ∧
      s.rxCursor.toNat + 1 = s.params.maxPacket) :=
  ⟨⟨midFrame 9 5 2 0x8259 [0x49, 0x42, 0x68, 0x69, 0x82] 0x59, by decide⟩, ⟨midFrame 9 66 63 0x84BD [] 0xBD, by decide⟩⟩

theorem wit_CapacityGuardSealsInvalid :
    (∃ s : State, s.params.Valid ∧ s.linkState = .receiving ∧ s.rxCursor.toNat + 1 = s.params.maxPacket ∧
      s.params.maxPacket + 1 = s.rxLen.toNat + 4) ∧
    (∃ s : State, s.params.Valid ∧ s.linkState = .receiving ∧ s.rxCursor.toNat + 1 = s.params.maxPacket ∧
      s.params.maxPacket < s.rxLen.toNat + 4 ∧ s.rxCursor.toNat < s.rxLen.toNat + 2) :=
  ⟨⟨{ midFrame 9 19 17 0x5038 [] 0x11 with params := { Params.decided with maxPacket := 20 } }, by decide⟩,
   ⟨{ midFrame 9 3 2 0x5891 [0x49, 0x42, 0x68] 0x69 with params := { Params.decided with maxPacket := 4 } }, by decide⟩⟩

theorem wit_EventStoresOneByte :
    (∃ s t : State, exec .irq s = .next t ∧ s.linkState = .listening) ∧
    (∃ s t : State, exec .irq s = .next t ∧ ¬ (s.linkState = .listening ∨ s.linkState = .receiving)) :=
  ⟨⟨withReplies [0x49] [] (node 9 .listening), _, rfl, by decide⟩, ⟨sending 0, _, rfl, by decide⟩⟩

theorem wit_OtherInstructionsStoreNothing : ∃ (i : Instr) (s t : State), i ≠ .irq ∧ exec i s = .next t :=
  ⟨.pollFrame, node 9 .idle, _, by decide, rfl⟩

theorem wit_TransmitPushesNextByte :
    (∃ s : State, s.linkState = .sending ∧ s.txCursor = 0 ∧ s.txCursor.toNat < s.txLen.toNat ∧
      s.txCursor.toNat < s.params.maxSignal) ∧
    (∃ s : State, s.linkState = .sending ∧ s.txCursor.toNat + 1 = s.txLen.toNat ∧ s.txCursor.toNat < s.params.maxSignal) :=
  ⟨⟨sending 0, by decide⟩, ⟨sending 12, by decide⟩⟩

theorem wit_TransmitCompletesToIdle :
    ∃ s : State, s.linkState = .sending ∧ ¬ (s.txCursor.toNat < s.txLen.toNat ∧ s.txCursor.toNat < s.params.maxSignal) :=
  ⟨sending 13, by decide⟩

theorem wit_TransmissionDrainsExactly :
    ∃ s : State, s.linkState = .sending ∧ s.txCursor = 0 ∧ s.txLen.toNat ≤ s.params.maxSignal ∧ 0 < s.txLen.toNat :=
  ⟨sending 0, by decide⟩

theorem wit_ExchangeAppendsOneEntry : (∃ s : State, s.constructed = true) ∧ (∃ s : State, s.constructed = false) :=
  ⟨⟨node 5 .idle, by decide⟩, ⟨State.reset, by decide⟩⟩

theorem wit_ReadExchangeRecordsReply :
    (∃ s : State, s.env.fifoDraws = 0x49 :: [0x42]) ∧ (∃ s : State, s.env.statusDraws = true :: []) :=
  ⟨⟨withReplies [0x49, 0x42] [] State.reset, by decide⟩, ⟨withReplies [] [true] State.reset, by decide⟩⟩

/-- Numerals that meet the constraints; they are nobody's. -/
def someNumerals : Numerals where
  tcmdIdle := 1
  tcmdSleep := 2
  tcmdRxOn := 3
  tcmdTxOn := 4
  tcmdFifoRead := 5
  tcmdFifoWrite := 0x0100
  tcmdStatusRead := 6
  carrierMask := 0x8000
  fifoDrainCalls := [7, 8]
  configCalls := fun band groupId => [0x0200 ||| groupId.setWidth 16, BitVec.ofNat 16 band]

theorem someNumerals_valid : someNumerals.Valid :=
  ⟨by decide, by decide, by decide, by decide, fun _ _ => by simp [someNumerals]⟩

theorem wit_CommandsCarryTheirRequests :
    someNumerals.Valid ∧
    (Request.written? (.fifoRead 1) = none ∧ Request.written? (.fifoRead 2) = none ∧
      (Request.fifoRead 1).command? someNumerals ≠ none ∧
      (Request.fifoRead 1).command? someNumerals = (Request.fifoRead 2).command? someNumerals) :=
  ⟨someNumerals_valid, by decide⟩

theorem wit_WireDataBecomesReplies : ∃ p : List Byte, p.length ≤ 63 := ⟨List.replicate 63 0, by decide⟩

/-- V-R1 with its last byte to come: the next step seals the frame. -/
def beforeSeal : State := turning [.irq] (midFrame 9 5 2 0x8259 [0x49, 0x42, 0x68, 0x69, 0x82] 0x59)

theorem beforeSeal_inv : beforeSeal.Inv := by
  constructor <;> decide

theorem beforeSeal_crcInv : beforeSeal.CrcInv := by
  constructor
  · decide +kernel
  · decide

/-- Also for `NoStepFaults`, `LinkStateMovesOnlyAsListed`, `ModeInvariantKeptByAgentSteps`, `TraceOnlyGrows`,
`SleepIsNeverIssued`. -/
theorem wit_InvariantKeptByEveryStep :
    ∃ s t : State, s.Inv ∧ s.ModeInv ∧ s.NextNotExchange ∧ Request.sleep ∉ s.trace ∧ step s = .next t ∧
      s.linkState = .receiving ∧ t.linkState = .receiveComplete :=
  ⟨beforeSeal, _, beforeSeal_inv, by decide, fun _ _ h => by simp [beforeSeal, turning] at h, by decide, rfl, rfl, rfl⟩

theorem wit_CrcInvariantKeptByEveryStep :
    ∃ s t : State, s.Inv ∧ s.CrcInv ∧ step s = .next t ∧ s.linkState = .receiving ∧ t.linkState = .receiveComplete :=
  ⟨beforeSeal, _, beforeSeal_inv, beforeSeal_crcInv, rfl, rfl, rfl⟩

theorem wit_EventTouchesOneSide :
    (∃ s t : State, exec .irq s = .next t ∧ s.linkState = .sending) ∧
    (∃ s t : State, exec .irq s = .next t ∧ s.linkState ≠ .sending) :=
  ⟨⟨sending 13, _, rfl, by decide⟩, ⟨withReplies [0x49] [] (node 9 .listening), _, rfl, by decide⟩⟩

theorem wit_IdentityWrittenOnlyByConstruct :
    ∃ s t : State, step s = .next t ∧ t.nodeId ≠ s.nodeId :=
  ⟨State.reset.withTurns [.host] |>.withCalls [[0, 0, 212, 5]], _, rfl, by decide⟩

theorem wit_UnreachableErrorClasses :
    ∃ s t : State, step s = .next t ∧ s.params.maxPacket = 67 ∧ .frameTruncationOverflow ∉ s.raised ∧
      s.params.spinTimeoutEnable = false ∧ .staleReceptionStall ∉ s.raised ∧ .wStatus .staleReceptionStall ∉ s.returns :=
  ⟨turning [.host] ({ sealedFrame 7 with rxCrcValid := false }.withCalls [[4]]) |>.withTurns [.host], _, rfl, by decide⟩

theorem wit_SealedFrameIsHeld :
    ∃ s t : State, s.linkState = .receiveComplete ∧ step s = .next t ∧ t.linkState = .receiveComplete :=
  ⟨turning [.irq] (sealedFrame 9), _, by decide, rfl, by decide⟩

theorem wit_FrameIsReceivedAsSent :
    (∃ s : State, s.params.Valid ∧ s.linkState = .listening ∧ s.FreshReception ∧ s.hostPhase = .none ∧
      s.constructed = true ∧ 2 + 4 ≤ s.params.maxPacket ∧
      s.env.fifoDraws = storedBytes 9 5 [0x68, 0x69] (crc16 (coveredBytes 9 5 [0x68, 0x69])) ++ [0xAA]) ∧
    (∃ s : State, s.params.Valid ∧ s.linkState = .listening ∧ s.FreshReception ∧ s.hostPhase = .none ∧
      s.constructed = true ∧ 0 + 4 = s.params.maxPacket ∧
      s.env.fifoDraws = storedBytes 0 31 [] (crc16 (coveredBytes 0 31 [])) ++ []) :=
  ⟨⟨withReplies [0x49, 0x42, 0x68, 0x69, 0x82, 0x59, 0xAA] [] (node 9 .listening), by decide +kernel⟩,
   ⟨withReplies [0x07, 0xC0, 0xD0, 0x03] [] { node 9 .listening with params := { Params.decided with maxPacket := 4 } },
    by decide +kernel⟩⟩

theorem wit_UnreadFrameIsLost :
    ∃ s : State, s.hostPhase = .none ∧ s.constructed = true ∧ s.linkState = .receiveComplete ∧ s.carrierReply = false :=
  ⟨withReplies [] [false] (sealedFrame 9), by decide⟩

theorem wit_AbortedReceptionStartsAfresh :
    ∃ s : State, s.hostPhase = .none ∧ s.constructed = true ∧ s.linkState = .receiving ∧ s.carrierReply = false :=
  ⟨withReplies [] [false] (midFrame 9 3 2 0x5891 [0x49, 0x42, 0x68] 0), by decide⟩

theorem wit_NamedPremisesFollow : ∃ (b : Band) (n : NodeId), b < State.afterReset.params.bandCount ∧ n ≠ 0 :=
  ⟨Config.otherBands, 5, Nat.lt_succ_self _, by decide⟩

end Sys2Proof.Tests
end

section
/-!
SUPPORT. Which word each turn brings, and that a step runs it (log 1). This settles O3.
-/

namespace Sys2Proof.Machine

/-- The first of the turns is the one that is taken. -/
theorem fetch_of_turn {s : State} {t : Turn} {ts : List Turn} (h : s.env.turns = t :: ts) :
    fetch s = fetchTurn t (s.withTurns ts) := by
  simp only [fetch, h]

/-- A host with no operation in progress makes its next call (R22). -/
theorem fetchHost_of_call {s : State} {w : List Byte} {cs : List (List Byte)} (hp : s.hostPhase = .none)
    (hc : s.env.hostCalls = w :: cs) : fetchHost s = .word .host w (s.withCalls cs) := by
  simp only [fetchHost, hp, hc]

/-- The word of an asserted byte-ready line is the event. -/
theorem decode_irq_asserted : decode .irq [1] = .ok .irq [] := rfl

/-- A fetched word that decodes is run, in the state the fetch leaves. -/
theorem step_of_fetch_word {s s' : State} {p : Port} {w rest : List Byte} {i : Instr} (hf : fetch s = .word p w s')
    (hd : decode p w = .ok i rest) : step s = exec i s' := by
  simp only [step, hf, hd]

/-- Settles O3: on each port the turn's word is fetched, and `step_of_fetch_word` runs it. That the instruction is
well-formed is not needed. -/
theorem stepRunsDecodedInstruction : Obligations.StepRunsDecodedInstruction := by
  intro s ts w i rest _
  refine ⟨fun cs ht hp hc hd => ?host, fun ht => ?irq, fun ht hd => ?exchange, fun ht hd => ?header, fun ht hd => ?frame⟩
  case host =>
    have hcall : fetchHost (s.withTurns ts) = .word .host w ((s.withTurns ts).withCalls cs) := fetchHost_of_call hp hc
    exact step_of_fetch_word ((fetch_of_turn ht).trans hcall) hd
  case irq => exact step_of_fetch_word (fetch_of_turn ht) decode_irq_asserted
  case exchange => exact step_of_fetch_word (fetch_of_turn ht) hd
  case header => exact step_of_fetch_word (fetch_of_turn ht) hd
  case frame => exact step_of_fetch_word (fetch_of_turn ht) hd

end Sys2Proof.Machine
end

section
/-!
SUPPORT. `CONSTRUCT` (R80) and its band operand (log 8). This settles O16.
-/

namespace Sys2Proof.Machine

/-- A number and the one it is reduced to name the same band. -/
theorem State.bandOperand_mod (s : State) (b : Band) : s.bandOperand (b % s.params.bandCount) = s.bandOperand b :=
  Nat.mod_mod _ _

/-- If there is a member, the operand is one. -/
theorem State.bandOperand_lt {s : State} (h : 1 ≤ s.params.bandCount) (b : Band) : s.bandOperand b < s.params.bandCount :=
  Nat.mod_lt _ h

/-- The state `CONSTRUCT` answers, for every band number and every node id (R80; log 10). -/
theorem exec_construct_of_free {s : State} (h : s.hostPhase = .none) (b : Band) (g : Byte) (n : NodeId) :
    exec (.construct b g n) s = .next
      { s with
        band := s.bandOperand b, groupId := g, nodeId := n, constructed := true
        linkState := .idle, rxCursor := 0, rxLen := 0, rxCrc := Config.crcSeed, rxAvailable := false, rxCrcValid := false
        txLen := 0, txCursor := 0, hostPhase := .none
        returns := s.returns ++ [.noResult] } := by
  simp only [exec, execConstruct, State.asHost_none h]
  rfl

/-- `CONSTRUCT` runs with a number as with the one it is reduced to (log 8). -/
theorem exec_construct_mod {s : State} (h : s.hostPhase = .none) (b : Band) (g : Byte) (n : NodeId) :
    exec (.construct (b % s.params.bandCount) g n) s = exec (.construct b g n) s := by
  rw [exec_construct_of_free h, exec_construct_of_free h, State.bandOperand_mod]

/-- Settles O16: the state is that of `exec_construct_of_free`, and reducing the number first makes no difference. -/
theorem constructReducesBandNumber : Obligations.ConstructReducesBandNumber := by
  intro s b g n hp
  have hrun := exec_construct_of_free hp b g n
  exact ⟨_, hrun, (exec_construct_mod hp b g n).trans hrun, rfl, fun hcount => State.bandOperand_lt hcount b⟩

end Sys2Proof.Machine
end

section
/-!
SUPPORT. The decoder keeps to its port: what it reads on a port is an instruction of that port.
-/

namespace Sys2Proof

theorem decodeConstruct_port {w rest : List Byte} {i : Instr} (h : decodeConstruct w = .ok i rest) : i.port = .host := by
  unfold decodeConstruct at h
  split at h <;> cases h
  rfl

theorem decodeWriteFrame_port {w rest : List Byte} {i : Instr} (h : decodeWriteFrame w = .ok i rest) :
    i.port = .host := by
  unfold decodeWriteFrame at h
  split at h
  · split at h <;> cases h
    rfl
  · cases h

theorem decodeHost_port {w rest : List Byte} {i : Instr} (h : decodeHost w = .ok i rest) : i.port = .host := by
  unfold decodeHost at h
  split at h
  · cases h
  · split at h
    case h_1 => exact decodeConstruct_port h
    case h_4 => exact decodeWriteFrame_port h
    all_goals cases h <;> rfl

theorem decodeIrq_port {w rest : List Byte} {i : Instr} (h : decodeIrq w = .ok i rest) : i.port = .irq := by
  unfold decodeIrq at h
  split at h
  · cases h
  · split at h <;> cases h
    rfl

theorem decodeFifoWrite_port {w rest : List Byte} {i : Instr} (h : decodeFifoWrite w = .ok i rest) : i.port = .treq := by
  unfold decodeFifoWrite at h
  split at h <;> cases h
  rfl

theorem decodeTreq_port {w rest : List Byte} {i : Instr} (h : decodeTreq w = .ok i rest) : i.port = .treq := by
  unfold decodeTreq at h
  split at h
  · cases h
  · split at h
    case h_6 => exact decodeFifoWrite_port h
    all_goals cases h <;> rfl

theorem decodeHeaderWord_port {w rest : List Byte} {i : Instr} (h : decodeHeaderWord w = .ok i rest) :
    i.port = .header := by
  unfold decodeHeaderWord at h
  split at h <;> cases h
  rfl

theorem decodeFrameTail_port {g : Byte} {d n : NodeId} {p w rest : List Byte} {i : Instr}
    (h : decodeFrameTail g d n p w = .ok i rest) : i.port = .frame := by
  unfold decodeFrameTail at h
  split at h
  · split at h <;> cases h
    rfl
  · cases h

theorem decodeFrame_port {w rest : List Byte} {i : Instr} (h : decodeFrame w = .ok i rest) : i.port = .frame := by
  unfold decodeFrame at h
  split at h
  · split at h
    · split at h
      · exact decodeFrameTail_port h
      · cases h
    · cases h
  · cases h

/-- What is decoded on a port is an instruction of that port (R45, R46, R49, R51). -/
theorem decode_port {p : Port} {w rest : List Byte} {i : Instr} (h : decode p w = .ok i rest) : i.port = p := by
  cases p with
  | host => exact decodeHost_port h
  | irq => exact decodeIrq_port h
  | treq => exact decodeTreq_port h
  | header => exact decodeHeaderWord_port h
  | frame => exact decodeFrame_port h

end Sys2Proof
end

section
/-!
SUPPORT. What every step can do to the state, said once (`Effect`, `step_effect`): the invariants and frame rules about steps are
read off it, case by case.
-/

namespace Sys2Proof.Machine

/-! ## Operations whose case split stands nowhere else -/

theorem execBeginOp_next {s t : State} (h : execBeginOp s = .next t) :
    t = State.give .noResult { s.issue (.config s.band s.groupId) with linkState := .idle } := by
  obtain ⟨-, h⟩ := State.asHost_next.1 h
  obtain ⟨-, h⟩ := State.withIdentity_next.1 h
  exact (Host.Outcome.next.inj h).symm

/-- What `CAN_TRANSMIT` can do (R82). -/
theorem execCanTransmit_next {s t : State} (h : execCanTransmit s = .next t) :
    t = { s with
          trace := s.trace ++ [.statusRead s.carrierReply]
          returns := s.returns ++ [.clear false]
          raised := s.raised ++ [.channelBusy]
          env := s.env.popStatus } ∨
    t = { s with
          linkState := .idle
          trace := s.trace ++ [.statusRead s.carrierReply] ++ [.idle] ++ [.fifoDrain]
          returns := s.returns ++ [.clear true]
          env := s.env.popStatus } := by
  obtain ⟨-, h⟩ := State.asHost_next.1 h
  obtain rfl := Host.Outcome.next.inj h
  simp only [State.give, State.raise, State.clearChannel, State.statusRead, State.issue]
  split
  · exact .inl rfl
  · exact .inr rfl

/-- A sealed frame is consumed by arming, whatever is given and labelled (R85). -/
theorem State.consumeFrame_eq (s : State) :
    ∃ returns raised, s.consumeFrame = { s.armListen with returns := returns, raised := raised } := by
  unfold State.consumeFrame
  split <;> exact ⟨_, _, rfl⟩

/-- A request presented by itself appends one entry and leaves the host's calls to come (R36; log 12). -/
theorem exec_exchange {i : Instr} {s t : State} (hi : i.port = .treq) (h : exec i s = .next t) :
    ∃ r e, e.hostCalls = s.env.hostCalls ∧ t = { s with trace := s.trace ++ [r], env := e } := by
  cases i <;> cases hi <;> cases h
  case tFifoRead => exact ⟨_, _, Env.popFifo_hostCalls _, rfl⟩
  case tStatusRead => exact ⟨_, _, Env.popStatus_hostCalls _, rfl⟩
  all_goals exact ⟨_, _, rfl, rfl⟩

/-- Bytes presented on the wire become replies to come (log 13). -/
theorem exec_wire {i : Instr} {s t : State} (hi : i.port = .header ∨ i.port = .frame) (h : exec i s = .next t) :
    ∃ bytes, t = s.arrive bytes := by
  cases i with
  | header d n l => exact ⟨_, (Host.Outcome.next.inj h).symm⟩
  | frame g d n p c => exact ⟨_, (Host.Outcome.next.inj h).symm⟩
  | _ => simp [Instr.port] at hi

/-! ## The last commanded mode -/

/-- The mode after one more request (R38). -/
theorem lastMode_append (trace : List Request) (r : Request) : lastMode (trace ++ [r]) = (r.mode? <|> lastMode trace) := by
  simp [lastMode]

/-- A request that commands no mode leaves it. -/
theorem lastMode_append_quiet {r : Request} (hr : r.mode? = none) (trace : List Request) :
    lastMode (trace ++ [r]) = lastMode trace := by
  rw [lastMode_append, hr]
  rfl

/-! ## Effects -/

/-- What a step makes of the state `f.state` that the fetch leaves. Exchanges presented by themselves, `CONSTRUCT` and the
reset input name the fetch they come from; of the others only the effect counts. -/
inductive Effect (f : Fetched) : State → Prop where
  /-- Results, labels, replies and the host's operation only, and no request that commands a mode. -/
  | quiet (phase : HostPhase) (trace : List Request) (returns : List HostReturn) (raised : List ErrorClass) (e : Env)
      (hphase : phase ≠ .none → f.state.hostPhase ≠ .none ∨ f.state.constructed = true)
      (hmode : lastMode trace = lastMode f.state.trace) (he : e.hostCalls = f.state.env.hostCalls) :
      Effect f { f.state with hostPhase := phase, trace := trace, returns := returns, raised := raised, env := e }
  /-- `BEGIN`, `CAN_TRANSMIT` on a clear channel, and transmit completion (R77, R81, R82). -/
  | toIdle (trace : List Request) (returns : List HostReturn) (e : Env) (he : e.hostCalls = f.state.env.hostCalls) :
      Effect f { f.state with linkState := .idle, trace := trace, returns := returns, env := e }
  /-- `POLL_FRAME` arms listening (R79, R85). -/
  | listen (returns : List HostReturn) (raised : List ErrorClass) (hc : f.state.constructed = true)
      (hl : f.state.linkState = .idle ∨ f.state.linkState = .receiveComplete) :
      Effect f { f.state.armListen with returns := returns, raised := raised }
  /-- A receive step, which seals or does not (R65, R72). -/
  | receive (t : State) (hl : f.state.linkState = .listening ∨ f.state.linkState = .receiving)
      (h : receiveStep f.state = .next t) : Effect f t
  /-- A transmit step that pushes a byte (R76). -/
  | push (hl : f.state.linkState = .sending) (hd : f.state.pushDue = true) : Effect f f.state.pushByte
  /-- The arming step on a clear channel (R84). -/
  | arm (d : NodeId) (a : Bool) (p : List Byte) (hp : f.state.hostPhase = .writeArming d a p) :
      Effect f (({ f.state with hostPhase := .none }.statusRead.armSend d a p).give (.wStatus .ok))
  /-- `CONSTRUCT` (R80). -/
  | construct (b : Band) (g : Byte) (n : NodeId) (w rest : List Byte) (hf : f = .word .host w f.state)
      (hd : decode .host w = .ok (.construct b g n) rest) (returns : List HostReturn) :
      Effect f
        { f.state with
          band := f.state.bandOperand b, groupId := g, nodeId := n, constructed := true
          linkState := .idle, rxCursor := 0, rxLen := 0, rxCrc := Config.crcSeed, rxAvailable := false
          rxCrcValid := false, txLen := 0, txCursor := 0, hostPhase := .none, returns := returns }
  /-- A request presented by itself (log 12). -/
  | exchange (w : List Byte) (hf : f = .word .treq w f.state) (r : Request) (e : Env)
      (he : e.hostCalls = f.state.env.hostCalls) :
      Effect f { f.state with trace := f.state.trace ++ [r], env := e }
  /-- The reset input (R105). -/
  | reset (hf : f = .reset f.state) : Effect f (hardwareReset f.state)

section
variable {f : Fetched} {t : State}

/-- A step that leaves the fetched state as it is. -/
theorem Effect.same (f : Fetched) : Effect f f.state := .quiet _ _ _ _ _ Or.inl rfl rfl

theorem irq_effect (h : execIrq f.state = .next t) : Effect f t := by
  rcases execIrq_next h with ⟨-, rfl⟩ | ⟨hl, h⟩ | ⟨hl, hd, rfl⟩ | ⟨-, -, rfl⟩
  · exact .same f
  · exact .receive t hl h
  · exact .push hl hd
  · simp only [State.completeSend, State.issue]
    exact .toIdle _ _ _ rfl

theorem canTransmit_effect (h : execCanTransmit f.state = .next t) : Effect f t := by
  rcases execCanTransmit_next h with rfl | rfl
  · exact .quiet _ _ _ _ _ Or.inl (lastMode_append_quiet rfl _) (Env.popStatus_hostCalls _)
  · exact .toIdle _ _ _ (Env.popStatus_hostCalls _)

theorem pollFrame_effect (h : execPollFrame f.state = .next t) : Effect f t := by
  obtain ⟨-, hc, ⟨hl, rfl⟩ | ⟨hl, -, rfl⟩ | ⟨-, -, rfl⟩⟩ := execPollFrame_next h
  · exact .listen _ _ hc (.inl hl)
  · obtain ⟨returns, raised, heq⟩ := f.state.consumeFrame_eq
    exact heq ▸ .listen returns raised hc (.inr hl)
  · exact .quiet _ _ _ _ _ Or.inl rfl rfl

theorem construct_effect {b : Band} {g : Byte} {n : NodeId} {p : Port} {w rest : List Byte} (hf : f = .word p w f.state)
    (hd : decode p w = .ok (.construct b g n) rest) (h : execConstruct b g n f.state = .next t) : Effect f t := by
  obtain rfl : Port.host = p := decode_port hd
  have hrun := exec_construct_of_free (State.asHost_next.1 h).1 b g n
  exact Host.Outcome.next.inj (hrun.symm.trans h) ▸ .construct b g n w rest hf hd _

/-- The effect of a decoded instruction. -/
theorem exec_effect {p : Port} {w rest : List Byte} {i : Instr} (hf : f = .word p w f.state)
    (hd : decode p w = .ok i rest) (h : exec i f.state = .next t) : Effect f t := by
  rcases exec_next h with ⟨b, g, n, rfl, hx⟩ | ⟨rfl, hx⟩ | ⟨rfl, hx⟩ | ⟨d, a, l, rfl, -, hc, rfl⟩ | ⟨rfl, hx⟩ | ⟨rfl, hx⟩ |
    ⟨hi, -⟩ | ⟨hi, -⟩
  · exact construct_effect hf hd hx
  · exact execBeginOp_next hx ▸ .toIdle _ _ _ rfl
  · exact canTransmit_effect hx
  · exact .quiet _ _ _ _ _ (fun _ => .inr hc) rfl rfl
  · exact pollFrame_effect hx
  · exact irq_effect hx
  · obtain rfl : Port.treq = p := hi.symm.trans (decode_port hd)
    obtain ⟨r, e, he, rfl⟩ := exec_exchange hi h
    exact .exchange w hf r e he
  · obtain ⟨bytes, rfl⟩ := exec_wire hi h
    exact .quiet _ _ _ _ _ Or.inl rfl rfl

/-- The effect of the host's next step in a `WRITE_FRAME` in progress (R83, R84). -/
theorem hostProceed_effect (h : hostProceed f.state = .next t) : Effect f t := by
  rcases hostProceed_next h with rfl | ⟨d, a, p, hp, -, rfl⟩ | ⟨d, a, p, hp, rfl⟩
  · exact .same f
  · exact .quiet _ _ _ _ _ (fun _ => .inl (by simp [hp])) rfl rfl
  · unfold armStep
    split
    · simp only [State.give, State.raise, State.statusRead, State.issue]
      exact .quiet _ _ _ _ _ (absurd rfl) (lastMode_append_quiet rfl _) (Env.popStatus_hostCalls _)
    · exact .arm d a p hp

/-- The effect of the wait's giving up, also where it may not (R83; log 20). -/
theorem hostTimeout_effect (f : Fetched) : Effect f (hostTimeout f.state) := by
  unfold hostTimeout
  split
  · split
    · exact .quiet _ _ _ _ _ (absurd rfl) rfl rfl
    · exact .same f
  all_goals exact .same f

end

/-- Every step that answers a next state has one of the effects. -/
theorem step_effect {s t : State} (h : step s = .next t) : Effect (fetch s) t := by
  rcases step_next h with ⟨p, w, s', i, rest, hf, hd, hx⟩ | ⟨s', hf, hx⟩ | ⟨s', hf, rfl⟩ | ⟨s', hf, rfl⟩ | ⟨s', hf, rfl⟩
  all_goals rw [hf]
  · exact exec_effect rfl hd hx
  · exact hostProceed_effect hx
  · exact hostTimeout_effect (.timeout s')
  · exact .reset rfl
  · exact .same (.nothing t)

end Sys2Proof.Machine
end

section
/-!
SUPPORT. The state invariant of R27 under each effect. This settles O44.
-/

namespace Sys2Proof.Machine

/-! ## The fetch and the bookkeeping -/

/-- The invariant does not speak of results, labels, the trace or the inputs to come, and of the host only that it holds an
operation after `CONSTRUCT`. -/
theorem State.Inv.quiet {s : State} (h : s.Inv) {phase : HostPhase}
    (hphase : phase ≠ .none → s.hostPhase ≠ .none ∨ s.constructed = true) (trace : List Request)
    (returns : List HostReturn) (raised : List ErrorClass) (e : Env) :
    State.Inv
      { s with hostPhase := phase, trace := trace, returns := returns, raised := raised, env := e } :=
  { h with hostConstructed := fun hp => (hphase hp).elim h.hostConstructed id }

theorem State.Inv.withEnv {s : State} (h : s.Inv) (e : Env) : State.Inv { s with env := e } :=
  h.quiet Or.inl _ _ _ e

theorem State.Inv.fetch {s : State} (h : s.Inv) : (fetch s).state.Inv := by
  obtain ⟨e, he⟩ := fetch_state s
  exact he ▸ h.withEnv e

/-! ## Leaving for `Idle`, and arming listening -/

theorem State.Inv.toIdle {s : State} (h : s.Inv) (trace : List Request) (returns : List HostReturn) (e : Env) :
    State.Inv { s with linkState := .idle, trace := trace, returns := returns, env := e } :=
  { h with linkConstructed := absurd rfl, listening := nofun, receiving := nofun, sealed := nofun, sending := nofun }

theorem State.Inv.listen {s : State} (h : s.Inv) (hc : s.constructed = true) (returns : List HostReturn)
    (raised : List ErrorClass) : State.Inv { s.armListen with returns := returns, raised := raised } :=
  { h with
    linkConstructed := fun _ => hc
    listening := fun _ => ⟨rfl, rfl, rfl, rfl, rfl⟩
    receiving := nofun
    sealed := nofun
    sending := nofun }

/-- `CONSTRUCT` gives a member of the enumeration and empties the rest but the buffers (R80). -/
theorem State.Inv.construct {s : State} (h : s.Inv) (b : Band) (g : Byte) (n : NodeId) (returns : List HostReturn) :
    State.Inv
      { s with
        band := s.bandOperand b, groupId := g, nodeId := n, constructed := true
        linkState := .idle, rxCursor := 0, rxLen := 0, rxCrc := Config.crcSeed, rxAvailable := false
        rxCrcValid := false, txLen := 0, txCursor := 0, hostPhase := .none, returns := returns } :=
  { h with
    linkConstructed := fun _ => rfl
    bandMember := fun _ => State.bandOperand_lt h.params.2.2.2.2 b
    hostConstructed := fun _ => rfl
    listening := nofun
    receiving := nofun
    sealed := nofun
    sending := nofun
    txCursorLe := Nat.le_refl _
    txLenLe := Nat.zero_le _
    txLenMin := .inl rfl }

/-- Right after reset nothing is written and nothing in flight (R26). -/
theorem hardwareReset_inv {s : State} (hp : s.params.Valid) : (hardwareReset s).Inv where
  params := hp
  rxWf := .nil
  rxWithin := nofun
  txWf := .nil
  txWithin := nofun
  linkConstructed := absurd rfl
  bandMember := nofun
  hostConstructed := absurd rfl
  listening := nofun
  receiving := nofun
  sealed := nofun
  txCursorLe := Nat.le_refl _
  txLenLe := Nat.zero_le _
  txLenMin := .inl rfl
  sending := nofun

/-! ## The receive step -/

/-- The bookkeeping of the bytes stored so far, before the seal condition has been looked at (R14, R15, R27 item 5). -/
structure State.Stored (s : State) : Prop where
  cursorLe : s.rxCursor.toNat ≤ s.params.maxPacket
  lenUnset : s.rxCursor.toNat ≤ 1 → s.rxLen = 0
  cursorLeNatural : s.rxCursor.toNat ≤ s.rxLen.toNat + 4
  lenLatched : 2 ≤ s.rxCursor.toNat → s.rxLen = lengthField (s.readRx 1)
  written : s.RxWritten s.rxCursor.toNat

/-- The seal condition, as a proposition (R72). -/
theorem State.sealDue_iff {s : State} :
    s.sealDue = true ↔ s.rxCursor.toNat = s.rxLen.toNat + 4 ∨ s.rxCursor.toNat = s.params.maxPacket := by
  simp [State.sealDue, State.atNaturalLength]

theorem State.sealDue_eq_false {s : State} :
    s.sealDue = false ↔ s.rxCursor.toNat ≠ s.rxLen.toNat + 4 ∧ s.rxCursor.toNat ≠ s.params.maxPacket := by
  rw [← Bool.not_eq_true, State.sealDue_iff, not_or]

/-- The verdict is natural length and a matching trailer (R73). -/
theorem State.crcVerdict_iff {s : State} :
    s.crcVerdict = true ↔ s.rxCursor.toNat = s.rxLen.toNat + 4 ∧ s.rxCrc = bigEndian s.rxTrailerHi s.rxTrailerLo := by
  simp [State.crcVerdict, State.atNaturalLength, validate_iff]

/-- In `Listening` and `Receiving` the bookkeeping is right and no seal is due. -/
theorem State.Inv.stored {s : State} (h : s.Inv) (hl : s.linkState = .listening ∨ s.linkState = .receiving) :
    s.Stored ∧ s.sealDue = false := by
  rw [State.sealDue_eq_false]
  obtain ⟨hmin, -⟩ := h.params
  rcases hl with hl | hl
  · obtain ⟨hc, hlen, -⟩ := h.listening hl
    have hc : s.rxCursor.toNat = 0 := congrArg BitVec.toNat hc
    exact ⟨⟨by omega, fun _ => hlen, by omega, fun h2 => absurd h2 (by omega), fun i hi => absurd hi (by omega)⟩,
      by omega, by omega⟩
  · obtain ⟨h1, hlt, hlen, hlatched, hw⟩ := h.receiving hl
    have hnatural : s.rxCursor.toNat < s.rxLen.toNat + 4 := by
      by_cases h2 : 2 ≤ s.rxCursor.toNat
      · exact (hlatched h2).1
      · omega
    exact ⟨⟨hlt.le, fun h0 => hlen (by omega), hnatural.le, fun h2 => (hlatched h2).2, hw⟩, hnatural.ne, hlt.ne⟩

theorem State.takeByte_cursor {s : State} (hp : s.params.Valid) (hc : s.rxCursor.toNat < s.params.maxPacket) :
    s.takeByte.rxCursor.toNat = s.rxCursor.toNat + 1 := by
  obtain ⟨-, hmax, -⟩ := hp
  exact cursor_succ (by omega)

/-- A cell that was written, and the one at the cursor, hold a value after a byte has been taken. -/
theorem State.takeByte_rxWritten {s : State} (h : s.RxWritten s.rxCursor.toNat) :
    s.takeByte.RxWritten (s.rxCursor.toNat + 1) := fun i hi => by
  rw [State.takeByte_rxBuf, Mem.read?_write]
  split
  · rfl
  · exact h i (by omega)

/-- Taking a byte keeps the bookkeeping right when no seal was due (R67 to R71). -/
theorem State.Stored.takeByte {s : State} (h : s.Stored) (hp : s.params.Valid) (hd : s.sealDue = false) :
    s.takeByte.Stored := by
  obtain ⟨hnatural, hmax⟩ := State.sealDue_eq_false.1 hd
  obtain ⟨hcle, hunset, hnle, hlatched, hw⟩ := h
  have hcur := State.takeByte_cursor hp (by omega)
  have hlen : s.takeByte.rxLen = lenAfter s.rxCursor.toNat s.rxLen s.fifoReply := rfl
  by_cases h1 : s.rxCursor.toNat = 1
  · have hread : s.takeByte.readRx 1 = s.fifoReply := h1 ▸ s.readRx_takeByte_same
    rw [h1, lenAfter_one] at hlen
    exact ⟨by rw [hcur]; exact hp.1.trans' (by omega), by omega, by omega, fun _ => by rw [hlen, hread],
      hcur ▸ State.takeByte_rxWritten hw⟩
  · rw [lenAfter_other h1] at hlen
    refine ⟨?_, fun _ => ?_, ?_, fun h2 => ?_, hcur ▸ State.takeByte_rxWritten hw⟩
    · rw [hcur]; exact Nat.lt_of_le_of_ne hcle hmax
    · rw [hlen]; exact hunset (by omega)
    · rw [hcur, hlen]; exact Nat.lt_of_le_of_ne hnle hnatural
    · rw [hlen, State.readRx_takeByte_other s (Ne.symm h1)]
      exact hlatched (by omega)

/-- A frame that is sealed has as many bytes as its bookkeeping says (R72). -/
theorem State.Stored.sealedSize {s : State} (h : s.Stored) (hd : s.sealDue = true) :
    s.sealedSize = s.rxCursor.toNat := by
  have := h.cursorLe
  have := h.cursorLeNatural
  have := State.sealDue_iff.1 hd
  unfold State.sealedSize
  omega

theorem State.Stored.midReception {s : State} (h : s.Stored) (hd : s.sealDue = false) (h1 : 1 ≤ s.rxCursor.toNat) :
    s.MidReception := by
  obtain ⟨hnatural, hmax⟩ := State.sealDue_eq_false.1 hd
  exact ⟨h1, Nat.lt_of_le_of_ne h.cursorLe hmax, fun hc => h.lenUnset hc.le,
    fun h2 => ⟨Nat.lt_of_le_of_ne h.cursorLeNatural hnatural, h.lenLatched h2⟩, h.written⟩

theorem State.Stored.sealedFrame {s : State} (h : s.Stored) (hp : s.params.Valid) (hd : s.sealDue = true) :
    s.sealFrame.SealedFrame := by
  have hsize := h.sealedSize hd
  have hdue := State.sealDue_iff.1 hd
  obtain ⟨hmin, -⟩ := hp
  refine ⟨rfl, h.lenLatched (by omega), ?_, fun hv => ?_⟩
  · exact (hsize ▸ h.written : s.RxWritten s.sealedSize)
  · obtain ⟨hnatural, -⟩ := State.crcVerdict_iff.1 hv
    exact (hnatural ▸ h.cursorLe : s.rxLen.toNat + 4 ≤ s.params.maxPacket)

/-- A byte taken below the capacity keeps what the invariant says in every link state. -/
theorem State.Inv.takeByte_toIdle {s : State} (h : s.Inv) (hc : s.rxCursor.toNat < s.params.maxPacket) :
    State.Inv { s.takeByte with linkState := .idle } :=
  { h with
    rxWf := Mem.write_wf h.rxWf _ _
    rxWithin := Mem.write_within h.rxWithin hc _
    linkConstructed := absurd rfl
    listening := nofun
    receiving := nofun
    sealed := nofun
    sending := nofun }

/-- The seal, in a state that has the rest of the invariant (R73). -/
theorem State.Inv.sealFrame {s : State} (h : State.Inv { s with linkState := .idle }) (hcon : s.constructed = true)
    (hs : s.Stored) (hd : s.sealDue = true) : s.sealFrame.Inv :=
  { h with
    linkConstructed := fun _ => hcon
    listening := nofun
    receiving := nofun
    sealed := fun _ => hs.sealedFrame h.params hd
    sending := nofun }

/-- A reception goes on in a state that has the rest of the invariant. -/
theorem State.Inv.receive {s : State} (h : State.Inv { s with linkState := .idle }) (hl : s.linkState = .receiving)
    (hcon : s.constructed = true) (hm : s.MidReception) : s.Inv :=
  { h with
    linkConstructed := fun _ => hcon
    listening := fun h => by simp [hl] at h
    receiving := fun _ => hm
    sealed := fun h => by simp [hl] at h
    sending := fun h => by simp [hl] at h }

/-- The receive step, sealing or not (R65). -/
theorem State.Inv.receiveStep {s t : State} (h : s.Inv) (hl : s.linkState = .listening ∨ s.linkState = .receiving)
    (hstep : receiveStep s = .next t) : t.Inv := by
  obtain ⟨hc, hcase⟩ := receiveStep_cases hstep
  obtain ⟨hs, hnd⟩ := h.stored hl
  have hs' : s.takeByte.Stored := hs.takeByte h.params hnd
  have hcur : s.takeByte.rxCursor.toNat = s.rxCursor.toNat + 1 := State.takeByte_cursor h.params hc
  have hcon : s.constructed = true := h.linkConstructed (by rcases hl with hl | hl <;> simp [hl])
  rcases hcase with ⟨hd, rfl⟩ | ⟨hd, rfl⟩
  · exact (h.takeByte_toIdle hc).receive rfl hcon (hs'.midReception hd (by omega))
  · exact (h.takeByte_toIdle hc).sealFrame hcon hs' hd

/-! ## The transmit side -/

theorem State.pushDue_iff {s : State} :
    s.pushDue = true ↔ s.txCursor.toNat < s.txLen.toNat ∧ s.txCursor.toNat < s.params.maxSignal := by
  simp [State.pushDue]

theorem State.Inv.pushByte {s : State} (h : s.Inv) (hd : s.pushDue = true) : s.pushByte.Inv := by
  obtain ⟨hlt, hsig⟩ := State.pushDue_iff.1 hd
  obtain ⟨-, -, -, hmax, -⟩ := h.params
  have hcur : s.pushByte.txCursor.toNat = s.txCursor.toNat + 1 := cursor_succ (by omega)
  exact { h with txCursorLe := hcur ▸ hlt }

/-- The frame fits the buffer, and `txLen` holds its length exactly (R20, R61; log 22). -/
theorem State.frameToSend_fits {s : State} (hp : s.params.Valid) (d : NodeId) (a : Bool) (p : List Byte) :
    12 ≤ (s.frameToSend d a p).length ∧ (s.frameToSend d a p).length ≤ s.params.maxSignal ∧
      (BitVec.ofNat 7 (s.frameToSend d a p).length).toNat = (s.frameToSend d a p).length := by
  obtain ⟨-, -, hmin, hmax, -⟩ := hp
  have hlen := s.frameToSend_length d a p
  refine ⟨by omega, by omega, ?_⟩
  rw [BitVec.toNat_ofNat]
  exact Nat.mod_eq_of_lt (by omega)

theorem State.Inv.armSend {s : State} (h : s.Inv) (hc : s.constructed = true) (d : NodeId) (a : Bool) (p : List Byte) :
    (s.armSend d a p).Inv := by
  obtain ⟨hmin, hmax, hlen⟩ := State.frameToSend_fits h.params d a p
  rw [← State.armSend_txLen] at hlen
  exact { h with
    txWf := Mem.writeAll_wf h.txWf _ _
    txWithin := Mem.writeAll_within h.txWithin (by omega)
    linkConstructed := fun _ => hc
    listening := nofun
    receiving := nofun
    sealed := nofun
    txCursorLe := Nat.zero_le _
    txLenLe := hlen ▸ hmax
    txLenMin := .inr (hlen ▸ hmin)
    sending := fun _ => ⟨hlen ▸ hmin, fun i hi => by
      rw [hlen] at hi
      simp [Mem.read?_writeAll, hi]⟩ }

/-! ## Every step -/

theorem Effect.inv {f : Fetched} {t : State} (h : Effect f t) (hs : f.state.Inv) : t.Inv := by
  cases h with
  | quiet _ _ _ _ _ hphase => exact hs.quiet hphase _ _ _ _
  | toIdle => exact hs.toIdle _ _ _
  | listen _ _ hc => exact hs.listen hc _ _
  | receive t hl h => exact hs.receiveStep hl h
  | push _ hd => exact hs.pushByte hd
  | arm d a p hp =>
    have hc : f.state.constructed = true := hs.hostConstructed (by simp [hp])
    have hfree : State.Inv { f.state with hostPhase := .none }.statusRead := hs.quiet (absurd rfl) _ _ _ _
    exact (hfree.armSend hc d a p).quiet Or.inl _ _ _ _
  | construct b g n => exact hs.construct b g n _
  | exchange => exact hs.quiet Or.inl _ _ _ _
  | reset => exact hardwareReset_inv hs.params

/-- Settles O44: the fetch keeps the invariant, and so does every effect a step can have. -/
theorem invariantKeptByEveryStep : Obligations.InvariantKeptByEveryStep :=
  fun _ _ hs h => (step_effect h).inv hs.fetch

end Sys2Proof.Machine
end

section
/-!
SUPPORT. The CRC invariant (R16, R18, R58) under each effect. This settles O45.
-/

namespace Sys2Proof.Machine

/-! ## The bytes stored so far -/

theorem crc16_append (bytes : List Byte) (b : Byte) : crc16 (bytes ++ [b]) = crc16Update (crc16 bytes) b := by
  simp [crc16, crc16From]

theorem State.rxBytes_congr {s t : State} {n : Nat} (h : ∀ i < n, t.readRx i = s.readRx i) : t.rxBytes n = s.rxBytes n :=
  List.map_congr_left fun i hi => h i (List.mem_range.1 hi)

theorem State.rxBytes_succ (s : State) (n : Nat) : s.rxBytes (n + 1) = s.rxBytes n ++ [s.readRx n] := by
  simp [State.rxBytes, List.range_succ]

/-- The bytes below the cursor stay when one is taken. -/
theorem State.takeByte_rxBytes (s : State) {n : Nat} (hn : n ≤ s.rxCursor.toNat) : s.takeByte.rxBytes n = s.rxBytes n :=
  State.rxBytes_congr fun _ hi => s.readRx_takeByte_other (by omega)

/-- The byte taken comes after them. -/
theorem State.takeByte_rxBytes_succ (s : State) :
    s.takeByte.rxBytes (s.rxCursor.toNat + 1) = s.rxBytes s.rxCursor.toNat ++ [s.fifoReply] := by
  rw [State.rxBytes_succ, State.takeByte_rxBytes s (Nat.le_refl _), State.readRx_takeByte_same]

/-! ## The accumulator -/

/-- The accumulator is the CRC of the header and payload bytes stored so far (R16, R48). -/
def State.CrcFollows (s : State) : Prop :=
  s.rxCrc = crc16 (s.rxBytes (min s.rxCursor.toNat (s.rxLen.toNat + 2)))

theorem State.CrcInv.crcFollows {s : State} (h : s.Inv) (hcrc : s.CrcInv)
    (hl : s.linkState = .listening ∨ s.linkState = .receiving) : s.CrcFollows := by
  rcases hl with hl | hl
  · obtain ⟨hc, -, hseed, -⟩ := h.listening hl
    rw [State.CrcFollows, hseed, hc]
    rfl
  · exact hcrc.receiving hl

/-- A header or payload byte is accumulated and a trailer byte is not, so the accumulator follows (R68 to R70). -/
theorem State.CrcFollows.takeByte {s : State} (h : s.CrcFollows)
    (hcur : s.takeByte.rxCursor.toNat = s.rxCursor.toNat + 1) : s.takeByte.CrcFollows := by
  unfold State.CrcFollows at h ⊢
  rw [hcur, State.takeByte_rxCrc, State.takeByte_rxLen]
  by_cases hcov : s.rxCursor.toNat < 2 ∨ s.rxCursor.toNat < s.rxLen.toNat + 2
  case pos =>
    have hbefore : min s.rxCursor.toNat (s.rxLen.toNat + 2) = s.rxCursor.toNat := by omega
    have hafter : min (s.rxCursor.toNat + 1) ((lenAfter s.rxCursor.toNat s.rxLen s.fifoReply).toNat + 2) =
        s.rxCursor.toNat + 1 := by
      by_cases h1 : s.rxCursor.toNat = 1
      · omega
      · rw [lenAfter_other h1]
        omega
    rw [hafter, State.takeByte_rxBytes_succ, crc16_append, crcAfter_covered hcov, h, hbefore]
  case neg =>
    rw [not_or, Nat.not_lt, Nat.not_lt] at hcov
    obtain ⟨h2, hlen⟩ := hcov
    rw [lenAfter_other (by omega), Nat.min_eq_right (by omega), State.takeByte_rxBytes s hlen, crcAfter_trailer h2 hlen, h,
      Nat.min_eq_right hlen]

/-! ## The seal -/

/-- A frame sealed with its accumulator right has what R18 says. -/
theorem State.CrcFollows.sealFrame {s : State} (h : s.CrcFollows) (hs : s.Stored) (hd : s.sealDue = true) :
    s.sealFrame.CrcInv where
  receiving := nofun
  sealed _ := by
    have hsize := hs.sealedSize hd
    have hnatural : s.rxCursor.toNat = s.rxLen.toNat + 4 ↔ s.rxLen.toNat + 4 ≤ s.params.maxPacket := by
      unfold State.sealedSize at hsize
      omega
    refine ⟨?_, ?_⟩
    · exact (hsize ▸ h : s.rxCrc = crc16 (s.rxBytes (min s.sealedSize (s.rxLen.toNat + 2))))
    · exact (State.crcVerdict_iff.trans (and_congr_left' hnatural) : s.crcVerdict = true ↔
        s.rxLen.toNat + 4 ≤ s.params.maxPacket ∧ s.rxCrc = bigEndian s.rxTrailerHi s.rxTrailerLo)

/-- The receive step, sealing or not. -/
theorem State.CrcInv.receiveStep {s t : State} (hcrc : s.CrcInv) (h : s.Inv)
    (hl : s.linkState = .listening ∨ s.linkState = .receiving) (hstep : receiveStep s = .next t) : t.CrcInv := by
  obtain ⟨hc, hcase⟩ := receiveStep_cases hstep
  obtain ⟨hs, hnd⟩ := h.stored hl
  have hcrc' : s.takeByte.CrcFollows := (hcrc.crcFollows h hl).takeByte (State.takeByte_cursor h.params hc)
  rcases hcase with ⟨-, rfl⟩ | ⟨hd, rfl⟩
  · exact ⟨fun _ => hcrc', nofun⟩
  · exact hcrc'.sealFrame (hs.takeByte h.params hnd) hd

/-! ## Every step -/

/-- In the other link states the CRC invariant says nothing. -/
theorem State.CrcInv.of_inactive {s : State} (hr : s.linkState ≠ .receiving) (hc : s.linkState ≠ .receiveComplete) :
    s.CrcInv :=
  ⟨(absurd · hr), (absurd · hc)⟩

theorem State.CrcInv.fetch {s : State} (h : s.CrcInv) : (fetch s).state.CrcInv := by
  obtain ⟨e, he⟩ := fetch_state s
  exact he ▸ ⟨h.receiving, h.sealed⟩

theorem Effect.crcInv {f : Fetched} {t : State} (h : Effect f t) (hs : f.state.Inv) (hcrc : f.state.CrcInv) : t.CrcInv := by
  cases h with
  | quiet => exact ⟨hcrc.receiving, hcrc.sealed⟩
  | toIdle => exact .of_inactive nofun nofun
  | listen => exact .of_inactive nofun nofun
  | receive t hl h => exact hcrc.receiveStep hs hl h
  | push hl => exact .of_inactive (by simp [hl]) (by simp [hl])
  | arm => exact .of_inactive (by simp) (by simp)
  | construct => exact .of_inactive nofun nofun
  | exchange => exact ⟨hcrc.receiving, hcrc.sealed⟩
  | reset => exact .of_inactive nofun nofun

/-- Settles O45: of the effects only the receive step touches what the CRC invariant speaks of. -/
theorem crcInvariantKeptByEveryStep : Obligations.CrcInvariantKeptByEveryStep :=
  fun _ _ hs hcrc h => (step_effect h).crcInv hs.fetch hcrc.fetch

end Sys2Proof.Machine
end

section
/-!
SUPPORT. The transceiver's last commanded mode under each effect (R10, R38), and the three invariants at reset. This settles O46
and O2.
-/

namespace Sys2Proof.Machine

/-- A fetched exchange comes from a turn that presents one (log 12). -/
theorem State.NextNotExchange.fetch_ne {s s' : State} {w : List Byte} (h : s.NextNotExchange) :
    fetch s ≠ .word .treq w s' := by
  intro hf
  cases ht : s.env.turns with
  | nil => simp [fetch, ht] at hf
  | cons turn ts =>
    rw [fetch_of_turn ht] at hf
    cases turn with
    | exchange w' => exact h w' ts ht
    | host =>
      simp only [fetchTurn, fetchHost] at hf
      split at hf
      · split at hf <;> cases hf
      all_goals cases hf
    | _ => cases hf

/-- What commands no mode and changes no link state keeps the mode right. -/
theorem State.ModeInv.of_same {s t : State} (h : s.ModeInv) (hl : t.linkState = s.linkState)
    (hm : lastMode t.trace = lastMode s.trace) : t.ModeInv := by
  unfold State.ModeInv
  rwa [hl, hm]

theorem State.ModeInv.of_idle {s : State} (hl : s.linkState = .idle) : s.ModeInv := by
  simp [State.ModeInv, hl]

/-- The seal idles the transceiver (R73). -/
theorem State.modeInv_sealFrame (s : State) : s.sealFrame.ModeInv := by
  refine ⟨by simp, fun _ => ?_, by simp⟩
  rw [State.sealFrame_trace, lastMode_append_quiet rfl, lastMode_append]
  rfl

/-- Arming listening turns the receiver on (R79). -/
theorem State.modeInv_armListen (s : State) : s.armListen.ModeInv :=
  ⟨fun _ => lastMode_append s.trace .rxOn, nofun, nofun⟩

/-- Arming the transmit sequencer turns the transmitter on (R84). -/
theorem State.modeInv_armSend (s : State) (d : NodeId) (a : Bool) (p : List Byte) : (s.armSend d a p).ModeInv :=
  ⟨by simp, by simp, fun _ => lastMode_append s.trace .txOn⟩

/-- The receive step finds the receiver on and leaves it on, or seals. -/
theorem State.ModeInv.receiveStep {s t : State} (h : s.ModeInv) (hl : s.linkState = .listening ∨ s.linkState = .receiving)
    (hstep : receiveStep s = .next t) : t.ModeInv := by
  obtain ⟨-, ⟨-, rfl⟩ | ⟨-, rfl⟩⟩ := receiveStep_cases hstep
  · exact ⟨fun _ => (lastMode_append_quiet rfl s.trace).trans (h.1 hl), nofun, nofun⟩
  · exact s.takeByte.modeInv_sealFrame

theorem Effect.modeInv {f : Fetched} {t : State} (h : Effect f t) (hx : ∀ w s', f ≠ .word .treq w s')
    (hs : f.state.ModeInv) : t.ModeInv := by
  cases h with
  | quiet _ _ _ _ _ _ hmode => exact hs.of_same rfl hmode
  | toIdle => exact .of_idle rfl
  | listen => exact f.state.modeInv_armListen
  | receive t hl h => exact hs.receiveStep hl h
  | push => exact hs.of_same rfl (lastMode_append_quiet rfl _)
  | arm d a p => exact State.modeInv_armSend _ d a p
  | construct => exact .of_idle rfl
  | exchange w hf => exact absurd hf (hx w _)
  | reset => exact .of_idle rfl

/-- Settles O46: without an exchange by itself, each effect that changes `linkState` commands the mode it names. -/
theorem modeInvariantKeptByAgentSteps : Obligations.ModeInvariantKeptByAgentSteps := by
  intro s t hnext hs h
  obtain ⟨e, he⟩ := fetch_state s
  have hfetched : (fetch s).state.ModeInv := he ▸ hs
  exact (step_effect h).modeInv (fun _ _ => hnext.fetch_ne) hfetched

/-- Settles O2: the parameters of R6 are valid, and nothing is in flight. -/
theorem invariantsHoldAtReset : Obligations.InvariantsHoldAtReset := by
  have hparams : Params.decided.Valid := ⟨by decide, by decide, by decide, by decide, Nat.le_add_left 1 _⟩
  exact ⟨hardwareReset_inv (s := State.reset) hparams, .of_inactive nofun nofun, .of_idle rfl⟩

end Sys2Proof.Machine
end

section
/-!
SUPPORT. What steps leave alone: the buffers but for events and arming, the identity, the sealed frame, the host's calls while it is
held; and the codes of the outputs. This settles O22, O27, O35, O50, O54 and O59.
-/

namespace Sys2Proof.Machine

/-! ## The buffers -/

/-- Of the instructions only `IRQ` writes a buffer (R12, R19). -/
theorem exec_keeps_buffers {i : Instr} {s t : State} (hi : i ≠ .irq) (h : exec i s = .next t) :
    t.rxBuf = s.rxBuf ∧ t.txBuf = s.txBuf := by
  rcases exec_next h with ⟨b, g, n, -, hx⟩ | ⟨-, hx⟩ | ⟨-, hx⟩ | ⟨d, a, p, -, -, -, rfl⟩ | ⟨-, hx⟩ | ⟨rfl, -⟩ |
    ⟨-, r, ht, -⟩ | ⟨-, ht⟩
  · obtain ⟨-, hx⟩ := State.asHost_next.1 hx
    cases hx
    exact ⟨rfl, rfl⟩
  · exact execBeginOp_next hx ▸ ⟨rfl, rfl⟩
  · rcases execCanTransmit_next hx with rfl | rfl <;> exact ⟨rfl, rfl⟩
  · exact ⟨rfl, rfl⟩
  · obtain ⟨-, -, ⟨-, rfl⟩ | ⟨-, -, rfl⟩ | ⟨-, -, rfl⟩⟩ := execPollFrame_next hx
    · exact ⟨rfl, rfl⟩
    · obtain ⟨_, _, heq⟩ := s.consumeFrame_eq
      exact heq ▸ ⟨rfl, rfl⟩
    · exact ⟨rfl, rfl⟩
  · exact absurd rfl hi
  · exact ht ▸ ⟨rfl, rfl⟩
  · exact ht ▸ ⟨rfl, rfl⟩

/-- Settles O35: the buffers are the same, so every cell reads the same. -/
theorem otherInstructionsStoreNothing : Obligations.OtherInstructionsStoreNothing := by
  intro i s t hi h
  obtain ⟨hrx, htx⟩ := exec_keeps_buffers hi h
  exact ⟨State.readRx_congr hrx, State.readTx_congr htx⟩

/-- A host that is held goes on with its operation (R22). -/
theorem fetchHost_of_held {s : State} (h : s.hostPhase ≠ .none) : fetchHost s = .proceed s := by
  unfold fetchHost
  split
  · contradiction
  all_goals rfl

/-- A host turn with the wait left behind is the arming step (R84). -/
theorem step_of_arming {s : State} {d : NodeId} {a : Bool} {p : List Byte} {ts : List Turn}
    (hp : s.hostPhase = .writeArming d a p) (ht : s.env.turns = .host :: ts) :
    step s = .next (armStep d a p (s.withTurns ts)) := by
  have hfetch : fetch s = .proceed (s.withTurns ts) :=
    (fetch_of_turn ht).trans (fetchHost_of_held (by simp [hp]))
  simp only [step, hfetch, hostProceed, State.withTurns_hostPhase, hp]

/-- What the arming step on a clear channel makes of the buffers and of `txLen`. -/
theorem armStep_buffers {s : State} (hc : s.carrierReply = false) (d : NodeId) (a : Bool) (p : List Byte) :
    (armStep d a p s).txBuf = s.txBuf.writeAll 0 (s.frameToSend d a p) ∧
    (armStep d a p s).txLen = BitVec.ofNat 7 (s.frameToSend d a p).length ∧ (armStep d a p s).rxBuf = s.rxBuf := by
  have hframe : { s with hostPhase := .none }.statusRead.frameToSend d a p = s.frameToSend d a p := rfl
  simp [armStep, hc, hframe]

/-- A cell of `txBuf` after bytes have been written from its start. -/
theorem State.readTx_of_writeAll {s t : State} {bytes : List Byte} (h : t.txBuf = s.txBuf.writeAll 0 bytes) (i : Nat) :
    t.readTx i = bytes[i]?.getD (s.readTx i) := by
  by_cases hi : i < bytes.length <;> simp [State.readTx, h, Mem.read?_writeAll, hi]

/-- Settles O22: the frame fits, so of the cells written from the start of `txBuf` those below `txLen` are the frame's and no
other is. -/
theorem armingStoresOnlyTheFrame : Obligations.ArmingStoresOnlyTheFrame := by
  intro s t d a p ts hparams hp ht hc h
  obtain ⟨hbuf, hlen, hrx⟩ : t.txBuf = s.txBuf.writeAll 0 (s.frameToSend d a p) ∧
      t.txLen = BitVec.ofNat 7 (s.frameToSend d a p).length ∧ t.rxBuf = s.rxBuf := by
    rw [step_of_arming hp ht] at h
    obtain rfl := Host.Outcome.next.inj h
    exact armStep_buffers (s := s.withTurns ts) hc d a p
  obtain ⟨hmin, hmax, hexact⟩ := State.frameToSend_fits hparams d a p
  rw [← hlen] at hexact
  refine ⟨hexact, hexact ▸ hmin, hexact ▸ hmax, fun i hi => ?_, fun i hi => ?_, State.readRx_congr hrx⟩ <;>
    rw [hexact] at hi <;> simp [State.readTx_of_writeAll hbuf, hi]

/-! ## The host that is held -/

/-- While the host is held a fetch takes none of its calls (R22). -/
theorem fetch_keeps_hostCalls {s : State} (h : s.hostPhase ≠ .none) : (fetch s).state.env.hostCalls = s.env.hostCalls := by
  cases ht : s.env.turns with
  | nil => simp [fetch, ht, Fetched.state]
  | cons turn ts =>
    rw [fetch_of_turn ht]
    cases turn with
    | host =>
      have hfetch : fetchTurn .host (s.withTurns ts) = .proceed (s.withTurns ts) := fetchHost_of_held h
      rw [hfetch]
      rfl
    | _ => rfl

/-- What a step makes of the fetched state leaves the host's calls to come. -/
theorem Effect.hostCalls {f : Fetched} {t : State} (h : Effect f t) : t.env.hostCalls = f.state.env.hostCalls := by
  cases h with
  | quiet _ _ _ _ _ _ _ he => exact he
  | toIdle _ _ _ he => exact he
  | receive t _ h =>
    obtain ⟨-, ⟨-, rfl⟩ | ⟨-, rfl⟩⟩ := receiveStep_cases h <;> exact Env.popFifo_hostCalls _
  | arm => exact Env.popStatus_hostCalls _
  | exchange _ _ _ _ he => exact he
  | listen | push | construct | reset => rfl

/-- Settles O27: `exec` refuses by `asHost`, and neither the fetch nor the effect of a step takes a call. -/
theorem heldHostStartsNothing : Obligations.HeldHostStartsNothing := by
  intro s hp
  refine ⟨fun b g n => ?construct, ?beginOp, ?canTransmit, fun d a p => ?writeFrame, ?pollFrame,
    fun t h => (step_effect h).hostCalls.trans (fetch_keeps_hostCalls hp)⟩
  all_goals
    simp only [exec, execConstruct, execBeginOp, execCanTransmit, execWriteFrame, execPollFrame, State.asHost_held hp]

/-! ## The identity and the parameters -/

/-- No effect writes the parameters, and only `CONSTRUCT` and the reset input write the identity (R6, R9). -/
theorem Effect.identity {f : Fetched} {t : State} (h : Effect f t) : t.params = f.state.params ∧
    (f.state.SameIdentity t ∨ f = .reset f.state ∨
    ∃ b g n w rest, f = .word .host w f.state ∧ decode .host w = .ok (.construct b g n) rest ∧
      t.band = f.state.bandOperand b ∧ t.groupId = g ∧ t.nodeId = n) := by
  cases h with
  | receive t _ h =>
    obtain ⟨-, ⟨-, rfl⟩ | ⟨-, rfl⟩⟩ := receiveStep_cases h <;> simp [State.SameIdentity]
  | construct b g n w rest hf hd => exact ⟨rfl, .inr (.inr ⟨b, g, n, w, rest, hf, hd, rfl, rfl, rfl⟩)⟩
  | reset hf => exact ⟨rfl, .inr (.inl hf)⟩
  | arm | push => simp [State.SameIdentity]
  | quiet | toIdle | listen | exchange => exact ⟨rfl, .inl ⟨rfl, rfl, rfl, rfl⟩⟩

/-- Settles O50: the fetch leaves identity and parameters, and the effect of the step writes them as `Effect.identity` says. -/
theorem identityWrittenOnlyByConstruct : Obligations.IdentityWrittenOnlyByConstruct := by
  intro s t h
  obtain ⟨hparams, hidentity⟩ := (step_effect h).identity
  obtain ⟨e, he⟩ := fetch_state s
  rw [he] at hparams hidentity
  refine ⟨hparams, ?_⟩
  rcases hidentity with hsame | hreset | ⟨b, g, n, w, rest, hf, hd, hb, hg, hn⟩
  · exact .inl hsame
  · exact .inr (.inl ⟨_, hreset⟩)
  · exact .inr (.inr ⟨b, g, n, w, rest, _, hf, hd, hb, hg, hn⟩)

/-! ## The sealed frame -/

/-- An effect from `ReceiveComplete` to `ReceiveComplete` writes nothing of the receive side (R27 item 3). -/
theorem Effect.keeps_sealed {f : Fetched} {t : State} (h : Effect f t) (hs : f.state.linkState = .receiveComplete)
    (ht : t.linkState = .receiveComplete) : f.state.SameReceiveSide t := by
  cases h with
  | quiet | exchange => exact ⟨rfl, rfl, rfl, rfl, rfl, rfl⟩
  | receive t hl => simp [hs] at hl
  | push hl => simp [hs] at hl
  | toIdle | listen | arm | construct | reset => simp [hardwareReset, State.reset] at ht

/-- Settles O54: the fetch leaves the frame, and so does every effect that stays in `ReceiveComplete`. -/
theorem sealedFrameIsHeld : Obligations.SealedFrameIsHeld := by
  intro s t hs h ht
  obtain ⟨e, he⟩ := fetch_state s
  have hsame := (step_effect h).keeps_sealed (he ▸ hs) ht
  rw [he] at hsame
  obtain ⟨hbuf, -, hlen, hcrc, havailable, hvalid⟩ := hsame
  exact ⟨hbuf, hlen, hcrc, hvalid, havailable⟩

/-! ## The codes of the outputs -/

/-- Different link states have different codes (R10). -/
theorem LinkState.code_inj {l m : LinkState} : l.code = m.code ↔ l = m := by
  cases l <;> cases m <;> decide

/-- Settles O59: the codes are the tables of R10, R50 and R51, and that of the link state tells it. -/
theorem statusOutputsShowTheState : Obligations.StatusOutputsShowTheState := by
  refine ⟨⟨rfl, rfl, rfl, rfl, rfl⟩, fun s => ⟨rfl, ?_⟩, fun _ _ => LinkState.code_inj,
    ⟨rfl, rfl, rfl, rfl, fun _ => rfl, fun _ => rfl, fun _ => rfl, rfl, fun _ _ => rfl⟩, ⟨rfl, rfl, rfl⟩,
    ⟨rfl, rfl, rfl, fun _ => rfl⟩⟩
  unfold State.rxAvailableOut
  cases s.rxAvailable <;> rfl

end Sys2Proof.Machine
end

section
/-!
SUPPORT. The transmission as a run of events (R76 to R78), and the frame that its trace hands to the transceiver (R36). This settles
O39.
-/

namespace Sys2Proof.Machine

/-! ## Runs of events -/

theorem irqEvents_succ {s t : State} (h : exec .irq s = .next t) (k : Nat) : irqEvents (k + 1) s = irqEvents k t := by
  simp only [irqEvents, h]

theorem irqEvents_succ_next {k : Nat} {s t : State} :
    irqEvents (k + 1) s = .next t ↔ ∃ u, exec .irq s = .next u ∧ irqEvents k u = .next t := by
  rw [irqEvents]
  cases exec .irq s <;> simp

/-- A run of events goes on from where its first part ends. -/
theorem irqEvents_add {k : Nat} {s t : State} (h : irqEvents k s = .next t) (m : Nat) :
    irqEvents (k + m) s = irqEvents m t := by
  induction k generalizing s with
  | zero => rw [Nat.zero_add, Host.Outcome.next.inj h]
  | succ k ih =>
    rw [Nat.add_right_comm]
    obtain ⟨u, hs, h⟩ := irqEvents_succ_next.1 h
    rw [irqEvents_succ hs]
    exact ih h

/-- One event after a run. -/
theorem irqEvents_then {k : Nat} {s t : State} (h : irqEvents k s = .next t) {u : State} (hu : exec .irq t = .next u) :
    irqEvents (k + 1) s = .next u :=
  (irqEvents_add h 1).trans (irqEvents_succ hu 0)

/-! ## The transmission -/

theorem exec_irq_sending {s : State} (hl : s.linkState = .sending) : exec .irq s = .next (transmitStep s) := by
  simp only [exec, execIrq, hl]

/-- The state after `k` pushes from the start of `txBuf`. -/
def State.pushed (k : Nat) (s : State) : State :=
  { s with
    txCursor := BitVec.ofNat 7 k
    trace := s.trace ++ (List.range k).map (fun j => .fifoWrite (s.readTx j)) }

section
variable {k : Nat} {s : State}

theorem State.pushed_zero (hc : s.txCursor = 0) : s.pushed 0 = s := by
  change { s with txCursor := 0, trace := s.trace ++ [] } = s
  rw [← hc, List.append_nil]

theorem State.pushed_txCursor (hk : k ≤ s.txLen.toNat) : (s.pushed k).txCursor.toNat = k :=
  Nat.mod_eq_of_lt (by omega)

theorem State.pushed_trace (k : Nat) (s : State) :
    (s.pushed k).trace = s.trace ++ ((List.range k).map s.readTx).map .fifoWrite := by
  rw [List.map_map]
  rfl

theorem State.pushed_pushByte (hk : k ≤ s.txLen.toNat) : (s.pushed k).pushByte = s.pushed (k + 1) := by
  have hread : (s.pushed k).readTx (s.pushed k).txCursor.toNat = s.readTx k := by
    rw [State.pushed_txCursor hk]
    rfl
  rw [State.pushByte, hread]
  simp only [State.issue, State.pushed, List.range_succ, List.map_append, List.append_assoc,
    List.map_cons, List.map_nil, BitVec.ofNat_add]

/-- Below the frame's end an event pushes the next byte, and at it the event completes the send (R76, R77). -/
theorem transmitStep_pushed (hk : k ≤ s.txLen.toNat) (hfit : s.txLen.toNat ≤ s.params.maxSignal) :
    transmitStep (s.pushed k) = if k < s.txLen.toNat then s.pushed (k + 1) else (s.pushed k).completeSend := by
  have hdue : (s.pushed k).pushDue = true ↔ k < s.txLen.toNat := by
    rw [State.pushDue_iff, State.pushed_txCursor hk]
    exact and_iff_left_of_imp fun hlt => hlt.trans_le hfit
  simp only [transmitStep, hdue, State.pushed_pushByte hk]

/-- The first `txLen` events push the frame byte by byte (R78). -/
theorem irqEvents_pushed (hl : s.linkState = .sending) (hc : s.txCursor = 0) (hfit : s.txLen.toNat ≤ s.params.maxSignal)
    (hk : k ≤ s.txLen.toNat) : irqEvents k s = .next (s.pushed k) := by
  induction k with
  | zero => rw [irqEvents, State.pushed_zero hc]
  | succ k ih =>
    have hevent : exec .irq (s.pushed k) = .next (s.pushed (k + 1)) := by
      rw [exec_irq_sending (s := s.pushed k) hl, transmitStep_pushed (by omega) hfit, if_pos (by omega)]
    exact irqEvents_then (ih (by omega)) hevent

/-- The event after them completes the send (R78). -/
theorem irqEvents_completeSend (hl : s.linkState = .sending) (hc : s.txCursor = 0)
    (hfit : s.txLen.toNat ≤ s.params.maxSignal) :
    irqEvents (s.txLen.toNat + 1) s = .next (s.pushed s.txLen.toNat).completeSend := by
  refine irqEvents_then (irqEvents_pushed hl hc hfit le_rfl) ?_
  rw [exec_irq_sending (s := s.pushed _) hl, transmitStep_pushed le_rfl hfit, if_neg (lt_irrefl _)]

end

/-! ## The frame read off the trace -/

/-- After the last `TX_ON` the frame is read up to the next `IDLE` (R36). -/
theorem frameHanded_after_txOn (before : List Request) {after : List Request} (h : .txOn ∉ after) :
    frameHanded (before ++ .txOn :: after) = (after.takeWhile (· != .idle)).filterMap Request.written? := by
  have hpass : ∀ r ∈ after.reverse, (r != .txOn) = true := fun r hr =>
    bne_iff_ne.2 fun heq => h (heq ▸ List.mem_reverse.1 hr)
  have hlast : ((before ++ .txOn :: after).reverse.takeWhile (· != .txOn)).reverse = after := by
    rw [List.reverse_append, List.reverse_cons, List.append_assoc, List.takeWhile_append_of_pos hpass]
    simp
  rw [frameHanded, hlast]

/-- Bytes pushed after `TX_ON` and closed by the completion arm are the frame handed over (R76, R77). -/
theorem frameHanded_pushes (before : List Request) (bytes : List Byte) :
    frameHanded (before ++ .txOn :: (bytes.map .fifoWrite ++ [.idle, .fifoWrite Config.pad])) = bytes := by
  have hpass : ∀ r ∈ bytes.map Request.fifoWrite, (r != .idle) = true := by simp
  have hwritten : (bytes.map Request.fifoWrite).filterMap Request.written? = bytes :=
    List.filterMap_map.trans List.filterMap_some
  rw [frameHanded_after_txOn _ (by simp), List.takeWhile_append_of_pos hpass]
  simpa using hwritten

/-- The cells of `txBuf` in order are the list it holds from its start. -/
theorem State.readTx_range {s : State} {bytes : List Byte} (h : ∀ i < bytes.length, some (s.readTx i) = bytes[i]?) :
    (List.range bytes.length).map s.readTx = bytes := by
  refine List.ext_getElem (by simp) fun i _ hi => ?_
  have hread := h i hi
  rw [List.getElem?_eq_getElem hi] at hread
  simpa using hread

/-- The trace of a whole transmission of the bytes that `txBuf` holds. -/
theorem State.completeSend_pushed_trace {s : State} {bytes : List Byte} (hlen : s.txLen.toNat = bytes.length)
    (h : ∀ i < s.txLen.toNat, some (s.readTx i) = bytes[i]?) :
    (s.pushed s.txLen.toNat).completeSend.trace =
      s.trace ++ (bytes.map .fifoWrite ++ [.idle, .fifoWrite Config.pad]) := by
  rw [hlen] at h ⊢
  rw [State.completeSend_trace, State.pushed_trace, State.readTx_range h]
  simp only [List.append_assoc, List.singleton_append]

/-- What the arming step on a clear channel starts (R84). -/
theorem armStep_starts {s : State} (hc : s.carrierReply = false) (d : NodeId) (a : Bool) (p : List Byte) :
    (armStep d a p s).linkState = .sending ∧ (armStep d a p s).txCursor = 0 ∧ (armStep d a p s).params = s.params ∧
      (armStep d a p s).trace = s.trace ++ [.statusRead s.carrierReply] ++ [.txOn] := by
  rw [armStep, if_neg (by simp [hc])]
  exact ⟨rfl, rfl, rfl, rfl⟩

/-- Settles O39: the frame armed is what `txBuf` holds, the events push all of it, and it is read back off the trace. -/
theorem frameIsHandedWhole : Obligations.FrameIsHandedWhole := by
  intro s t d a p ts hparams hp ht hc h
  obtain ⟨hlen, -, hfit, hread, -, -⟩ := armingStoresOnlyTheFrame s t d a p ts hparams hp ht hc h
  rw [step_of_arming hp ht] at h
  obtain rfl := Host.Outcome.next.inj h
  obtain ⟨hl, hcur, hpar, htrace⟩ := armStep_starts (s := s.withTurns ts) hc d a p
  refine ⟨_, irqEvents_completeSend hl hcur (hpar ▸ hfit), rfl, ?_⟩
  rw [State.completeSend_pushed_trace hlen hread, htrace, List.append_assoc, List.singleton_append]
  exact frameHanded_pushes _ _

end Sys2Proof.Machine
end

section
/-!
SUPPORT. The mapping to the 16-bit primitive (R37). This settles O42.
-/

namespace Sys2Proof.Machine

/-- The codes number the command numerals: a request without data is the call of its numeral, if it is one call (R37, R51). -/
theorem Request.command?_eq_getElem? (n : Numerals) {r : Request} (h : r.written? = none) :
    r.command? n = n.commands[r.code.toNat]? := by
  cases r with
  | fifoWrite b => cases h
  | _ => rfl

theorem Request.code_inj_of_command? {n : Numerals} (hn : n.commands.Nodup) {r r' : Request} (hr : r.written? = none)
    (hr' : r'.written? = none) (hone : r.command? n ≠ none) (h : r.command? n = r'.command? n) : r.code = r'.code := by
  rw [Request.command?_eq_getElem? n hr] at hone h
  rw [Request.command?_eq_getElem? n hr'] at h
  have hlt : r.code.toNat < n.commands.length := Nat.lt_of_not_le fun hle => hone (List.getElem?_eq_none hle)
  exact BitVec.eq_of_toNat_eq ((List.getElem?_inj hlt hn).1 h)

theorem Request.calls_ne_nil {n : Numerals} (hdrain : n.fifoDrainCalls ≠ [])
    (hconfig : ∀ band groupId, n.configCalls band groupId ≠ []) (r : Request) : r.calls n ≠ [] := by
  cases r with
  | fifoDrain => exact hdrain
  | config band groupId => exact hconfig band groupId
  | _ => exact List.cons_ne_nil _ _

/-- A byte put into the low bits of a command whose low byte is zero stands there (R37; log 17). -/
theorem extract_low_or_byte {w : Word16} (h : w.extractLsb' 0 8 = 0) (b : Byte) :
    (w ||| b.setWidth 16).extractLsb' 0 8 = b := by
  have hbyte : (b.setWidth 16).extractLsb' 0 8 = b := by
    ext i hi
    simp [show i < 16 by omega, BitVec.getLsbD_eq_getElem hi]
  rw [BitVec.extractLsb'_or, h, hbyte]
  exact BitVec.zero_or

/-- It leaves the command's high byte. -/
theorem extract_high_or_byte (w : Word16) (b : Byte) : (w ||| b.setWidth 16).extractLsb' 8 8 = w.extractLsb' 8 8 := by
  ext i hi
  simp

/-- The reply to `STATUS_READ` is read at the one bit of the mask (R37). -/
theorem carrierOfReply_of_mask {n : Numerals} {k : Nat} (h : n.carrierMask = 1#16 <<< k) (hk : k < 16) (reply : Word16) :
    carrierOfReply n reply = reply.getLsbD k := by
  have hbit : BitVec.twoPow 16 k ≠ 0#16 := fun h0 => by
    have := congrArg (·.getLsbD k) h0
    simp [hk] at this
  rw [carrierOfReply, h, ← BitVec.twoPow_eq, BitVec.and_twoPow]
  cases reply.getLsbD k
  case false => rfl
  case true => exact bne_iff_ne.2 hbit

/-- Settles O42: the numerals are told apart by the codes, a byte fits below the write command, and the mask is one bit. -/
theorem commandsCarryTheirRequests : Obligations.CommandsCarryTheirRequests := by
  rintro n ⟨hdistinct, hlow, ⟨k, hmask⟩, hdrain, hconfig⟩
  refine ⟨Request.calls_ne_nil hdrain hconfig, ⟨rfl, rfl, rfl, rfl, fun _ => rfl, fun _ => rfl, rfl, fun _ _ => rfl⟩,
    fun b => ⟨_, rfl, extract_low_or_byte hlow b, extract_high_or_byte _ b⟩,
    fun r r' hr hr' => Request.code_inj_of_command? hdistinct hr hr', fun t t' => List.flatMap_append,
    fun reply => ?fifoByte, fun reply => ⟨fun h => ⟨k, hmask, ?bit⟩, ?carrier⟩⟩
  case fifoByte => simp [fifoByteOfReply, BitVec.extractLsb'_toNat]
  case bit => rwa [carrierOfReply_of_mask hmask k.isLt] at h
  case carrier =>
    rintro ⟨j, hj, hbit⟩
    rwa [carrierOfReply_of_mask hj j.isLt]

end Sys2Proof.Machine
end

section
/-!
SUPPORT. Where a step can fault, and that the invariant shuts both places out (R32). This settles O47.
-/

namespace Sys2Proof.Machine

theorem State.asHost_fault {s : State} {k : State → Outcome} {r : Fault} (h : s.asHost k = .fault r) : k s = .fault r := by
  unfold State.asHost at h
  split at h
  · exact h
  all_goals cases h

theorem State.withIdentity_fault {s : State} {k : State → Outcome} {r : Fault} (h : s.withIdentity k = .fault r) :
    k s = .fault r := by
  unfold State.withIdentity at h
  split at h
  · exact h
  · cases h

/-- An event faults only where it would store beyond the buffer (log 18). -/
theorem execIrq_fault {s : State} {r : Fault} (h : execIrq s = .fault r) :
    (s.linkState = .listening ∨ s.linkState = .receiving) ∧ s.params.maxPacket ≤ s.rxCursor.toNat := by
  have hbound : receiveStep s = .fault r → s.params.maxPacket ≤ s.rxCursor.toNat := by
    intro hr
    unfold receiveStep at hr
    split at hr
    · cases hr
    next hge => exact Nat.not_lt.1 hge
  unfold execIrq at h
  split at h
  case h_3 hl => exact ⟨.inl hl, hbound h⟩
  case h_4 hl => exact ⟨.inr hl, hbound h⟩
  all_goals cases h

/-- `POLL_FRAME` faults only where it would copy from beyond the buffer (log 18). -/
theorem execPollFrame_fault {s : State} {r : Fault} (h : execPollFrame s = .fault r) :
    s.frameAvailable = true ∧ s.rxCrcValid = true ∧ s.payloadInBounds = false := by
  have h := State.withIdentity_fault (State.asHost_fault h)
  split at h
  · cases h
  · split at h
    next ha =>
      split at h
      next hb =>
        simp only [Bool.and_eq_true, Bool.not_eq_true'] at hb
        obtain ⟨⟨-, hv⟩, hout⟩ := hb
        exact ⟨ha, hv, hout⟩
      · cases h
    · cases h

/-- No other instruction faults. -/
theorem exec_fault {i : Instr} {s : State} {r : Fault} (h : exec i s = .fault r) :
    execIrq s = .fault r ∨ execPollFrame s = .fault r := by
  cases i with
  | irq => exact .inl h
  | pollFrame => exact .inr h
  | construct =>
    simp only [exec, execConstruct] at h
    cases State.asHost_fault h
  | beginOp =>
    simp only [exec, execBeginOp] at h
    cases State.withIdentity_fault (State.asHost_fault h)
  | canTransmit =>
    simp only [exec, execCanTransmit] at h
    cases State.asHost_fault h
  | writeFrame =>
    simp only [exec, execWriteFrame] at h
    cases State.withIdentity_fault (State.asHost_fault h)
  | _ => cases h

/-- Only a decoded word can fault: the steps of a `WRITE_FRAME` in progress touch the buffers inside their bounds. -/
theorem step_fault {s : State} {r : Fault} (h : step s = .fault r) : ∃ i, exec i (fetch s).state = .fault r := by
  unfold step at h
  split at h
  next p w s' hf =>
    split at h
    next i rest hd => exact ⟨i, by rw [hf]; exact h⟩
    · cases h
  next =>
    unfold hostProceed at h
    split at h <;> cases h
  all_goals cases h

/-- While bytes are taken the cursor is below the capacity (R27 items 4 and 5). -/
theorem State.Inv.execIrq_ne_fault {s : State} (h : s.Inv) (r : Fault) : execIrq s ≠ .fault r := by
  intro hx
  obtain ⟨hl, hbeyond⟩ := execIrq_fault hx
  obtain ⟨hs, hd⟩ := h.stored hl
  obtain ⟨-, hne⟩ := State.sealDue_eq_false.1 hd
  exact hne (hs.cursorLe.antisymm hbeyond)

/-- A frame with a valid CRC was sealed at its natural length, within the capacity (R27 item 2). -/
theorem State.Inv.execPollFrame_ne_fault {s : State} (h : s.Inv) (r : Fault) : execPollFrame s ≠ .fault r := by
  intro hx
  obtain ⟨ha, hv, hout⟩ := execPollFrame_fault hx
  simp only [State.frameAvailable, Bool.and_eq_true, beq_iff_eq] at ha
  obtain ⟨-, hlen, -, hfits⟩ := h.sealed ha.1
  have hheader : s.rxHeader.length = s.rxLen := hlen.symm
  have hfits := hfits hv
  have hin : s.payloadInBounds = true := decide_eq_true (by rw [hheader]; omega)
  exact Bool.noConfusion (hin.symm.trans hout)

/-- Settles O47: the two places where a step can fault are out of the invariant's reach. -/
theorem noStepFaults : Obligations.NoStepFaults := by
  intro s r hs h
  obtain ⟨i, hx⟩ := step_fault h
  rcases exec_fault hx with hx | hx
  · exact hs.fetch.execIrq_ne_fault r hx
  · exact hs.fetch.execPollFrame_ne_fault r hx

end Sys2Proof.Machine
end

section
/-!
SUPPORT. The request trace after each operation begins with the trace before it (R36). This settles O53.
-/

namespace Sys2Proof.Machine

/-- A trace that stays has nothing appended. -/
theorem State.extends_trace_of_eq {s t : State} (h : t.trace = s.trace) : s.trace <+: t.trace :=
  ⟨[], (List.append_nil _).trans h.symm⟩

theorem execIrq_extends_trace {s t : State} (h : execIrq s = .next t) : s.trace <+: t.trace := by
  rcases execIrq_next h with ⟨-, rfl⟩ | ⟨-, h⟩ | ⟨-, -, rfl⟩ | ⟨-, -, rfl⟩
  · exact State.extends_trace_of_eq rfl
  · obtain ⟨-, ⟨-, rfl⟩ | ⟨-, rfl⟩⟩ := receiveStep_cases h
    · exact ⟨_, rfl⟩
    · simp
  · exact ⟨_, rfl⟩
  · simp

theorem execPollFrame_extends_trace {s t : State} (h : execPollFrame s = .next t) : s.trace <+: t.trace := by
  obtain ⟨-, -, ⟨-, rfl⟩ | ⟨-, -, rfl⟩ | ⟨-, -, rfl⟩⟩ := execPollFrame_next h
  · exact ⟨_, rfl⟩
  · obtain ⟨_, _, heq⟩ := s.consumeFrame_eq
    exact heq ▸ ⟨_, rfl⟩
  · exact State.extends_trace_of_eq rfl

theorem execCanTransmit_extends_trace {s t : State} (h : execCanTransmit s = .next t) : s.trace <+: t.trace := by
  rcases execCanTransmit_next h with rfl | rfl
  · exact ⟨_, rfl⟩
  · simp

theorem exec_extends_trace {i : Instr} {s t : State} (h : exec i s = .next t) : s.trace <+: t.trace := by
  rcases exec_next h with ⟨b, g, n, -, hx⟩ | ⟨-, hx⟩ | ⟨-, hx⟩ | ⟨d, a, p, -, -, -, rfl⟩ | ⟨-, hx⟩ | ⟨-, hx⟩ |
    ⟨-, r, ht, -⟩ | ⟨-, ht⟩
  · obtain ⟨-, hx⟩ := State.asHost_next.1 hx
    cases hx
    exact State.extends_trace_of_eq rfl
  · exact execBeginOp_next hx ▸ ⟨_, rfl⟩
  · exact execCanTransmit_extends_trace hx
  · exact State.extends_trace_of_eq rfl
  · exact execPollFrame_extends_trace hx
  · exact execIrq_extends_trace hx
  · exact ht ▸ ⟨_, rfl⟩
  · exact ht ▸ State.extends_trace_of_eq rfl

theorem armStep_extends_trace (d : NodeId) (a : Bool) (p : List Byte) (s : State) : s.trace <+: (armStep d a p s).trace := by
  unfold armStep
  split <;> simp

theorem hostProceed_extends_trace {s t : State} (h : hostProceed s = .next t) : s.trace <+: t.trace := by
  rcases hostProceed_next h with rfl | ⟨d, a, p, -, -, rfl⟩ | ⟨d, a, p, -, rfl⟩
  · exact State.extends_trace_of_eq rfl
  · exact State.extends_trace_of_eq rfl
  · exact armStep_extends_trace d a p s

theorem hostTimeout_extends_trace (s : State) : s.trace <+: (hostTimeout s).trace := by
  unfold hostTimeout
  split
  · split <;> exact State.extends_trace_of_eq rfl
  all_goals exact State.extends_trace_of_eq rfl

/-- The fetch leaves the trace. -/
theorem fetch_trace (s : State) : (fetch s).state.trace = s.trace := by
  obtain ⟨e, he⟩ := fetch_state s
  rw [he]

/-- Settles O53: whatever a step is, it appends to the trace that the fetch leaves, but for the reset input. -/
theorem traceOnlyGrows : Obligations.TraceOnlyGrows := by
  intro s t h
  have grows : (fetch s).state.trace <+: t.trace → ∃ new, t.trace = s.trace ++ new := by
    rintro ⟨new, hnew⟩
    exact ⟨new, by rw [← hnew, fetch_trace]⟩
  rcases step_next h with ⟨p, w, s', i, rest, hf, -, hx⟩ | ⟨s', hf, hx⟩ | ⟨s', hf, rfl⟩ | ⟨s', hf, rfl⟩ | ⟨s', hf, rfl⟩
  · exact .inl (grows (hf ▸ exec_extends_trace hx))
  · exact .inl (grows (hf ▸ hostProceed_extends_trace hx))
  · exact .inl (grows (hf ▸ hostTimeout_extends_trace s'))
  · exact .inr ⟨s', hf, rfl⟩
  · exact .inl (grows (State.extends_trace_of_eq (by rw [hf]; rfl)))

end Sys2Proof.Machine
end

section
/-!
SUPPORT. The requests presented by themselves (log 12) and the bytes presented on the wire (log 13). This settles O40, O41 and O43.
-/

namespace Sys2Proof.Machine

theorem exec_tConfig (s : State) : exec .tConfig s = .next { s with trace := s.trace ++ [s.configRequest] } := rfl

/-- Settles O40: each is `State.issue` of its request, and what `CONFIG` carries is `State.configRequest`. -/
theorem exchangeAppendsOneEntry : Obligations.ExchangeAppendsOneEntry := by
  intro s b
  refine ⟨rfl, rfl, rfl, rfl, rfl, rfl, fun hc => ?constructed, fun _ => ?unset⟩
  case constructed => rw [exec_tConfig, State.configRequest_constructed hc]
  case unset =>
    obtain ⟨band, groupId, hr⟩ := s.configRequest_eq
    exact ⟨band, groupId, by rw [exec_tConfig, hr]⟩

/-- Settles O41: the replies recorded are `State.fifoReply` and `State.carrierReply`, the first listed draws if there are any. -/
theorem readExchangeRecordsReply : Obligations.ReadExchangeRecordsReply := fun s =>
  ⟨⟨s.fifoReply, rfl, fun _ _ h => ⟨State.fifoReply_cons h, Env.popFifo_cons h⟩⟩,
   ⟨s.carrierReply, rfl, fun _ _ h => ⟨State.carrierReply_cons h, Env.popStatus_cons h⟩⟩⟩

/-- Settles O43: what arrives of a frame is `storedBytes`, which stand in its word between the group-sync byte and the pad. -/
theorem wireDataBecomesReplies : Obligations.WireDataBecomesReplies := fun _ _ d n _ p c =>
  ⟨rfl, fun _ => ⟨storedBytes d n p c, rfl, storedBytes_length d n p c, rfl⟩⟩

end Sys2Proof.Machine
end

section
/-!
SUPPORT. The decoder on the encoder's words: header, operands and frame (R45, R46, R50, R51). This settles O5 and O6.
-/

namespace Sys2Proof.Machine

/-! ## The header and the CRC field as 16-bit words -/

/-- Each bit of the header belongs to one of its three fields (R46). -/
theorem headerWord_getLsbD (d n : NodeId) (l : PayloadLen) (k : Nat) :
    (headerWord d n l).getLsbD k =
      if k < 6 then l.getLsbD k else if k < 11 then n.getLsbD (k - 6) else d.getLsbD (k - 11) := by
  simp only [headerWord, BitVec.getLsbD_or, BitVec.getLsbD_shiftLeft, BitVec.getLsbD_setWidth]
  split
  next hl => simp [show k < 16 by omega, show k < 11 by omega, hl]
  next hl =>
    rw [BitVec.getLsbD_of_ge l k (by omega)]
    split
    next hn => simp [show k < 16 by omega, show k - 6 < 16 by omega, hl, hn]
    next hn =>
      rw [BitVec.getLsbD_of_ge n (k - 6) (by omega)]
      by_cases hk : k < 16
      · simp [hk, show k - 11 < 16 by omega, hn]
      · rw [BitVec.getLsbD_of_ge d (k - 11) (by omega)]
        simp [hk]

/-- The two bytes of a word, high byte first, give it back (R31). -/
theorem bigEndian_hiByte_loByte (w : Word16) : bigEndian (hiByte w) (loByte w) = w := by
  refine BitVec.eq_of_getLsbD_eq fun k hk => ?_
  rw [bigEndian, BitVec.getLsbD_append]
  split
  next h => simp [loByte, h]
  next h => simp [hiByte, show k - 8 < 8 by omega, show 8 + (k - 8) = k by omega]

theorem decodeHeader_packHeader_destination (d n : NodeId) (l : PayloadLen) :
    (decodeHeader (packHeader d n l).1 (packHeader d n l).2).destination = d := by
  refine BitVec.eq_of_getLsbD_eq fun k hk => ?_
  simp only [decodeHeader, packHeader, hiByte, BitVec.getLsbD_extractLsb', headerWord_getLsbD]
  simp [hk, show 3 + k < 8 by omega, show 8 + (3 + k) = k + 11 by omega]

theorem decodeHeader_packHeader_sender (d n : NodeId) (l : PayloadLen) :
    (decodeHeader (packHeader d n l).1 (packHeader d n l).2).sender = n := by
  refine BitVec.eq_of_getLsbD_eq fun k hk => ?_
  simp only [decodeHeader, packHeader, hiByte, loByte, BitVec.getLsbD_append, BitVec.getLsbD_extractLsb',
    headerWord_getLsbD]
  split
  next h => simp [show 6 + k < 8 by omega, show 6 + k < 11 by omega, h]
  next h => simp [show k - 2 < 3 by omega, show k - 2 < 8 by omega, show 8 + (k - 2) = k + 6 by omega, hk]

theorem decodeHeader_packHeader_length (d n : NodeId) (l : PayloadLen) :
    (decodeHeader (packHeader d n l).1 (packHeader d n l).2).length = l := by
  refine BitVec.eq_of_getLsbD_eq fun k hk => ?_
  simp only [decodeHeader, lengthField, packHeader, loByte, BitVec.getLsbD_extractLsb', headerWord_getLsbD]
  simp [hk, show k < 8 by omega]

/-- Unpacking a packed header gives its fields back (R59, R60). -/
theorem decodeHeader_packHeader (d n : NodeId) (l : PayloadLen) :
    decodeHeader (packHeader d n l).1 (packHeader d n l).2 = { destination := d, sender := n, length := l } := by
  rw [Header.mk.injEq]
  exact ⟨decodeHeader_packHeader_destination d n l, decodeHeader_packHeader_sender d n l,
    decodeHeader_packHeader_length d n l⟩

end Sys2Proof.Machine

namespace Sys2Proof

open Sys2Proof.Machine (packHeader wireBytes storedBytes coveredBytes hiByte loByte decodeHeader_packHeader
  bigEndian_hiByte_loByte)

/-! ## The words with operands -/

/-- A node id comes back from the byte it stands in (R50). -/
theorem setWidth_byte_nodeId (n : NodeId) : ((n.setWidth 8 : Byte).setWidth 5 : NodeId) = n := by
  rw [BitVec.setWidth_setWidth_of_le n (by decide), BitVec.setWidth_eq]

/-- A bit comes back from the byte it stands in (R50). -/
theorem boolByte_getLsbD (b : Bool) : (boolByte b).getLsbD 0 = b := by
  cases b <;> rfl

/-- The operands of `CONSTRUCT` are read back, a band of any size (R50; log 8). -/
theorem decodeConstruct_encodeBand (b : Band) (g : Byte) (n : NodeId) (rest : List Byte) :
    decodeConstruct (encodeBand b ++ g :: n.setWidth 8 :: rest) = .ok (.construct b g n) rest := by
  simp only [decodeConstruct, decodeBand_encodeBand, setWidth_byte_nodeId]

/-- The operands of `WRITE_FRAME` are read back: the payload's length fits its byte (R50). -/
theorem decodeWriteFrame_operands (d : NodeId) (a : Bool) {p : List Byte} (hp : p.length ≤ Config.maxHostPayload)
    (rest : List Byte) :
    decodeWriteFrame (d.setWidth 8 :: boolByte a :: BitVec.ofNat 8 p.length :: (p ++ rest)) =
      .ok (.writeFrame d a p) rest := by
  have hlen : (BitVec.ofNat 8 p.length).toNat = p.length := Nat.mod_eq_of_lt (Nat.lt_succ_of_le hp)
  simp only [decodeWriteFrame, hlen, splitBytes_append, setWidth_byte_nodeId, boolByte_getLsbD]

/-- The end of a frame gives its CRC field back, and its pad is accepted (R45). -/
theorem decodeFrameTail_trailer (g : Byte) (d n : NodeId) (p : List Byte) (c : Word16) (rest : List Byte) :
    decodeFrameTail g d n p (hiByte c :: loByte c :: Config.pad :: Config.pad :: Config.pad :: rest) =
      .ok (.frame g d n p c) rest := by
  simp only [decodeFrameTail, bigEndian_hiByte_loByte, and_self, if_true]

/-- The word of a header is read back (R46). -/
theorem decodeHeaderWord_packHeader (d n : NodeId) (l : PayloadLen) (rest : List Byte) :
    decodeHeaderWord ((packHeader d n l).1 :: (packHeader d n l).2 :: rest) = .ok (.header d n l) rest := by
  simp only [decodeHeaderWord, decodeHeader_packHeader]

/-- The word of a frame is read back: its header's length says where the payload ends (R45, R53). -/
theorem decodeFrame_wireBytes (g : Byte) (d n : NodeId) {p : List Byte} (hp : p.length ≤ Config.maxPayload) (c : Word16)
    (rest : List Byte) : decodeFrame (wireBytes g d n p c ++ rest) = .ok (.frame g d n p c) rest := by
  have hlen : (BitVec.ofNat 6 p.length).toNat = p.length := Nat.mod_eq_of_lt (Nat.lt_succ_of_le hp)
  simp [wireBytes, storedBytes, coveredBytes, decodeFrame, decodeHeader_packHeader, hlen, splitBytes_append,
    decodeFrameTail_trailer]

/-- Settles O6: the words with operands are read back by the lemmas above, of which two need the bound on the payload; the others
are fixed bytes. -/
theorem decodeInvertsEncode : Obligations.DecodeInvertsEncode := by
  intro i rest hwf
  cases i with
  | construct b g n =>
    have hword : encode (.construct b g n) ++ rest = 0 :: (encodeBand b ++ g :: n.setWidth 8 :: rest) := by simp [encode]
    rw [hword]
    exact decodeConstruct_encodeBand b g n rest
  | writeFrame d a p => exact decodeWriteFrame_operands d a hwf rest
  | header d n l => exact decodeHeaderWord_packHeader d n l rest
  | frame g d n p c => exact decodeFrame_wireBytes g d n hwf c rest
  | _ => rfl

/-- Settles O5: closed words, which the decoder is run on. -/
theorem knownWordsDecode : Obligations.KnownWordsDecode := by
  unfold Obligations.KnownWordsDecode
  decide

end Sys2Proof
end

section
/-!
SUPPORT. The bounds of what is decoded: a payload is as long as its length byte or field says (R50, R53). This settles O7.
-/

namespace Sys2Proof

theorem decodeWriteFrame_payload_le {w rest p : List Byte} {d : NodeId} {a : Bool}
    (h : decodeWriteFrame w = .ok (.writeFrame d a p) rest) : p.length ≤ Config.maxHostPayload := by
  unfold decodeWriteFrame at h
  split at h
  next dest anon len tail =>
    split at h <;> cases h
    next hs => exact splitBytes_length hs ▸ Nat.le_of_lt_succ len.isLt
  · cases h

/-- On the host port a `WRITE_FRAME` comes from `decodeWriteFrame` only. -/
theorem decodeHost_writeFrame {w rest p : List Byte} {d : NodeId} {a : Bool}
    (h : decodeHost w = .ok (.writeFrame d a p) rest) : ∃ w', decodeWriteFrame w' = .ok (.writeFrame d a p) rest := by
  unfold decodeHost at h
  split at h
  · cases h
  next op tail =>
    split at h
    case h_1 =>
      unfold decodeConstruct at h
      split at h <;> cases h
    case h_4 => exact ⟨tail, h⟩
    all_goals cases h

/-- The end of a frame is read after the payload, which it keeps. -/
theorem decodeFrameTail_payload {g g' : Byte} {d d' n n' : NodeId} {p p' w rest : List Byte} {c : Word16}
    (h : decodeFrameTail g d n p w = .ok (.frame g' d' n' p' c) rest) : p' = p := by
  unfold decodeFrameTail at h
  split at h
  · split at h <;> cases h
    rfl
  · cases h

theorem decodeFrame_payload_le {w rest p : List Byte} {g : Byte} {d n : NodeId} {c : Word16}
    (h : decodeFrame w = .ok (.frame g d n p c) rest) : p.length ≤ Config.maxPayload := by
  unfold decodeFrame at h
  split at h
  · split at h
    · split at h
      next hs =>
        rw [decodeFrameTail_payload h, splitBytes_length hs]
        exact Nat.le_of_lt_succ (BitVec.isLt _)
      · cases h
    · cases h
  · cases h

/-- What is decoded is well-formed: only the two payloads have a bound that their type does not give. -/
theorem decode_wellFormed {port : Port} {w rest : List Byte} {i : Instr} (h : decode port w = .ok i rest) : i.WellFormed := by
  obtain rfl := decode_port h
  cases i with
  | writeFrame d a p =>
    obtain ⟨_, hw⟩ := decodeHost_writeFrame h
    exact decodeWriteFrame_payload_le hw
  | frame g d n p c => exact decodeFrame_payload_le h
  | _ => trivial

/-- Settles O7: `decode_wellFormed` gives the bounds and `decode_port` the port. -/
theorem decodedInstructionIsWellFormed : Obligations.DecodedInstructionIsWellFormed :=
  fun _ _ _ _ h => ⟨decode_wellFormed h, decode_port h⟩

end Sys2Proof
end

section
/-!
SUPPORT. The codes that no operation and no request has, and the refusal of a word that is rejected (R51, R52). This settles O26.
-/

namespace Sys2Proof.Machine

/-- The host port is 3 bits wide (R49; log 3). -/
theorem decode_host_beyond {b : Byte} (hb : 8 ≤ b.toNat) (rest : List Byte) :
    decode .host (b :: rest) = .error .beyondHostPort := by
  simp only [decode, decodeHost]
  split
  case h_9 => rfl
  all_goals omega

/-- Request codes end at 8 (R51; log 3). -/
theorem decode_treq_beyond {b : Byte} (hb : 9 ≤ b.toNat) (rest : List Byte) :
    decode .treq (b :: rest) = .error .neverIssued := by
  simp only [decode, decodeTreq]
  split
  case h_10 => rfl
  all_goals omega

/-- A fetched word that is rejected is refused, with the decoder's reason. -/
theorem step_of_fetch_rejected {s s' : State} {p : Port} {w : List Byte} {r : Reject} (hf : fetch s = .word p w s')
    (hd : decode p w = .error r) : step s = .refused (.undecodable r) := by
  simp only [step, hf, hd]

/-- Settles O26: codes 5 to 7 by the meanings they dispatch to, codes beyond the ports by `decode_host_beyond` and
`decode_treq_beyond`, which `step_of_fetch_rejected` carries over to the step. -/
theorem reservedHostCodesRefused : Obligations.ReservedHostCodesRefused := by
  refine ⟨fun _ => ⟨rfl, rfl, rfl⟩, fun _ => ⟨rfl, rfl, rfl⟩,
    fun _ rest => ⟨fun hb => decode_host_beyond hb rest, fun hb => decode_treq_beyond hb rest⟩,
    fun s ts b rest => ⟨fun cs ht hp hc hb => ?host, fun ht hb => ?exchange⟩⟩
  case host =>
    have hcall : fetchHost (s.withTurns ts) = .word .host (b :: rest) ((s.withTurns ts).withCalls cs) :=
      fetchHost_of_call hp hc
    exact step_of_fetch_rejected ((fetch_of_turn ht).trans hcall) (decode_host_beyond hb rest)
  case exchange => exact step_of_fetch_rejected (fetch_of_turn ht) (decode_treq_beyond hb rest)

end Sys2Proof.Machine
end

section
/-!
SUPPORT. 16-bit quantities and the header as numbers, and the header codec in both directions (R31, R59, R60). This settles O8 and
O11.
-/

namespace Sys2Proof.Machine

/-! ## A 16-bit quantity and its two bytes -/

/-- Two words side by side, as a number. -/
theorem toNat_append_eq {m n : Nat} (x : BitVec m) (y : BitVec n) : (x ++ y).toNat = x.toNat * 2 ^ n + y.toNat := by
  rw [BitVec.toNat_append, ← Nat.shiftLeft_add_eq_or_of_lt y.isLt, Nat.shiftLeft_eq]

theorem bigEndian_toNat (hi lo : Byte) : (bigEndian hi lo).toNat = hi.toNat * 256 + lo.toNat :=
  toNat_append_eq hi lo

theorem hiByte_toNat (w : Word16) : (hiByte w).toNat = w.toNat / 256 := by
  rw [hiByte, BitVec.extractLsb'_toNat, Nat.shiftRight_eq_div_pow]
  omega

theorem loByte_toNat (w : Word16) : (loByte w).toNat = w.toNat % 256 :=
  BitVec.extractLsb'_toNat 0 8 w

theorem hiByte_bigEndian (hi lo : Byte) : hiByte (bigEndian hi lo) = hi :=
  BitVec.eq_of_toNat_eq (by rw [hiByte_toNat, bigEndian_toNat]; omega)

theorem loByte_bigEndian (hi lo : Byte) : loByte (bigEndian hi lo) = lo :=
  BitVec.eq_of_toNat_eq (by rw [loByte_toNat, bigEndian_toNat]; omega)

/-- Settles O11: `validate` compares with the two bytes side by side, and a word's own two bytes give it back. -/
theorem validateComparesTrailer : Obligations.ValidateComparesTrailer := by
  refine ⟨fun c hi lo => ?_, fun c => validate_iff.2 (bigEndian_hiByte_loByte c).symm⟩
  rw [validate_iff, ← BitVec.toNat_inj, bigEndian_toNat]

/-! ## The header -/

/-- The three fields of the header stand side by side (R46). -/
theorem headerWord_eq_append (d n : NodeId) (l : PayloadLen) : headerWord d n l = (d ++ n ++ l : BitVec 16) := by
  refine BitVec.eq_of_getLsbD_eq fun k _ => ?_
  rw [headerWord_getLsbD, BitVec.getLsbD_append, BitVec.getLsbD_append]
  split
  · rfl
  · simp only [show k < 11 ↔ k - 6 < 5 by omega, Nat.sub_sub]

theorem headerWord_toNat (d n : NodeId) (l : PayloadLen) :
    (headerWord d n l).toNat = d.toNat * 2048 + n.toNat * 64 + l.toNat := by
  rw [headerWord_eq_append, toNat_append_eq, toNat_append_eq]
  omega

theorem lengthField_toNat (b : Byte) : (lengthField b).toNat = b.toNat % 64 :=
  BitVec.extractLsb'_toNat 0 6 b

theorem decodeHeader_destination_toNat (b0 b1 : Byte) : (decodeHeader b0 b1).destination.toNat = b0.toNat / 8 := by
  rw [decodeHeader, BitVec.extractLsb'_toNat, Nat.shiftRight_eq_div_pow]
  omega

theorem decodeHeader_sender_toNat (b0 b1 : Byte) :
    (decodeHeader b0 b1).sender.toNat = b0.toNat % 8 * 4 + b1.toNat / 64 := by
  rw [decodeHeader, toNat_append_eq, BitVec.extractLsb'_toNat, BitVec.extractLsb'_toNat, Nat.shiftRight_zero,
    Nat.shiftRight_eq_div_pow]
  omega

/-- Packing what was unpacked gives the same 16 bits (R60). -/
theorem headerWord_decodeHeader (b0 b1 : Byte) :
    headerWord (decodeHeader b0 b1).destination (decodeHeader b0 b1).sender (decodeHeader b0 b1).length =
      bigEndian b0 b1 := by
  have hlen : (decodeHeader b0 b1).length.toNat = b1.toNat % 64 := lengthField_toNat b1
  refine BitVec.eq_of_toNat_eq ?_
  rw [headerWord_toNat, bigEndian_toNat, decodeHeader_destination_toNat, decodeHeader_sender_toNat, hlen]
  omega

theorem packHeader_decodeHeader (b0 b1 : Byte) :
    packHeader (decodeHeader b0 b1).destination (decodeHeader b0 b1).sender (decodeHeader b0 b1).length = (b0, b1) := by
  rw [packHeader, headerWord_decodeHeader, hiByte_bigEndian, loByte_bigEndian]

/-- Settles O8: the numbers of the fields and bytes, and each function after the other. -/
theorem headerCodecIsBijective : Obligations.HeaderCodecIsBijective :=
  ⟨fun d n l => ⟨headerWord_toNat d n l, hiByte_toNat _, loByte_toNat _, decodeHeader_packHeader d n l⟩,
   fun b0 b1 => ⟨decodeHeader_destination_toNat b0 b1, decodeHeader_sender_toNat b0 b1, lengthField_toNat b1,
     packHeader_decodeHeader b0 b1⟩⟩

end Sys2Proof.Machine
end

section
/-!
SUPPORT. The CRC (R56 to R58): no step of it loses information, so one changed byte is seen at the end. This settles O9 and O10.
-/

namespace Sys2Proof.Machine

/-- Bit by bit: a shift step moves the bits down and adds the polynomial where the bit shifted out was 1 (R56). -/
theorem crcShift_getLsbD (c : Word16) (k : Nat) :
    (crcShift c).getLsbD k = (c.getLsbD (k + 1) ^^ (c.getLsbD 0 && Config.crcPoly.getLsbD k)) := by
  unfold crcShift
  split
  next h => rw [BitVec.getLsbD_xor, BitVec.getLsbD_ushiftRight, Nat.add_comm, h, Bool.true_and]
  next h =>
    rw [Bool.not_eq_true] at h
    rw [BitVec.getLsbD_ushiftRight, Nat.add_comm, h, Bool.false_and, Bool.xor_false]

/-- The top bit of the polynomial is 1, so the top bit of the result is the bit that was shifted out. -/
theorem crcShift_top (c : Word16) : (crcShift c).getLsbD 15 = c.getLsbD 0 := by
  have hpoly : Config.crcPoly.getLsbD 15 = true := rfl
  rw [crcShift_getLsbD, BitVec.getLsbD_of_ge c _ (by decide), hpoly, Bool.and_true, Bool.false_xor]

/-- A shift step can be undone: the bit shifted out is read off the top, and with it the others. -/
theorem crcShift_injective : Function.Injective crcShift := by
  intro c c' h
  have hout : c.getLsbD 0 = c'.getLsbD 0 := by rw [← crcShift_top, h, crcShift_top]
  refine BitVec.eq_of_getLsbD_eq fun k _ => ?_
  cases k with
  | zero => exact hout
  | succ k =>
    have hbit := congrArg (BitVec.getLsbD · k) h
    simp only [crcShift_getLsbD, hout] at hbit
    exact Bool.xor_left_inj.1 hbit

theorem crcShifts_injective (k : Nat) : Function.Injective (crcShifts k) := by
  induction k with
  | zero => exact Function.injective_id
  | succ k ih => exact ih.comp crcShift_injective

theorem crc16Update_injective_left (b : Byte) : Function.Injective (crc16Update · b) :=
  fun _ _ h => (BitVec.xor_left_inj _).1 (crcShifts_injective 8 h)

theorem crc16Update_injective_right (c : Word16) : Function.Injective (crc16Update c) := by
  intro b b' h
  have hword : b.setWidth 16 = b'.setWidth 16 := (BitVec.xor_right_inj c).1 (crcShifts_injective 8 h)
  simpa using congrArg (BitVec.setWidth 8) hword

/-- Settles O9: on 16-bit words an injective update is a bijection. -/
theorem crcUpdateIsBijective : Obligations.CrcUpdateIsBijective :=
  ⟨fun b => (crc16Update_injective_left b).bijective_of_finite, crc16Update_injective_right⟩

/-- Different accumulators stay different whatever bytes follow. -/
theorem crc16From_injective (bytes : List Byte) : Function.Injective (crc16From · bytes) := by
  induction bytes with
  | nil => exact Function.injective_id
  | cons b bytes ih => exact ih.comp (crc16Update_injective_left b)

theorem crc16_append_cons (front back : List Byte) (b : Byte) :
    crc16 (front ++ b :: back) = crc16From (crc16Update (crc16 front) b) back := by
  simp only [crc16, crc16From, List.foldl_append, List.foldl_cons]

/-- One changed byte changes the CRC (R58). -/
theorem crc16_ne_of_ne (front back : List Byte) {b b' : Byte} (h : b ≠ b') :
    crc16 (front ++ b :: back) ≠ crc16 (front ++ b' :: back) := by
  rw [crc16_append_cons, crc16_append_cons]
  exact (crc16From_injective back).ne ((crc16Update_injective_right _).ne h)

/-- Settles O10: the CRCs differ, and `validate` compares the new one with the trailer, which is the old one. -/
theorem crcDetectsOneChangedByte : Obligations.CrcDetectsOneChangedByte := by
  intro front back b b' h
  refine ⟨crc16_ne_of_ne front back h, ?_⟩
  rw [← Bool.not_eq_true, validate_iff, bigEndian_hiByte_loByte]
  exact crc16_ne_of_ne front back h.symm

end Sys2Proof.Machine
end

section
/-!
SUPPORT. The frame builder (R61) and its truncation of a long payload (R62). This settles O12 and O13.
-/

namespace Sys2Proof.Machine

theorem senderField_eq_getD (sender : Option NodeId) : senderField sender = sender.getD 0 := by
  cases sender <;> rfl

theorem keptPayload_idem (p : List Byte) : keptPayload (keptPayload p) = keptPayload p := by
  rw [keptPayload, keptPayload, List.take_take, Nat.min_self]

/-- The builder looks at nothing but the payload it keeps (R62). -/
theorem encodeFrame_keptPayload (m : Nat) (g : Byte) (d : NodeId) (n : Option NodeId) (p : List Byte) :
    encodeFrame m g d n (keptPayload p) = encodeFrame m g d n p := by
  simp only [encodeFrame, fullFrame, keptPayload_idem]

theorem fullFrame_length (g : Byte) (d : NodeId) (n : Option NodeId) (p : List Byte) :
    (fullFrame g d n p).length = 12 + min p.length 63 := by
  rw [fullFrame, wireBytes_length, keptPayload_length]

/-- The second header byte stands at offset 6 of every frame that has so many bytes (R45). -/
theorem encodeFrame_getElem?_six {m : Nat} (hm : 7 ≤ m) (g : Byte) (d : NodeId) (n : Option NodeId) (p : List Byte) :
    (encodeFrame m g d n p)[6]? =
      some (packHeader d (senderField n) (BitVec.ofNat 6 (keptPayload p).length)).2 :=
  List.getElem?_take_of_lt (by omega)

/-- The second header byte carries the length in its low bits (R46). -/
theorem packHeader_snd_mod (d n : NodeId) (l : PayloadLen) : (packHeader d n l).2.toNat % 64 = l.toNat := by
  rw [← lengthField_toNat]
  exact congrArg BitVec.toNat (decodeHeader_packHeader_length d n l)

/-- The wire bytes in the order of R45, with the payload between the header and the CRC. -/
theorem wireBytes_eq_append (g : Byte) (d n : NodeId) (p : List Byte) (c : Word16) :
    wireBytes g d n p c =
      [0xAA, 0xAA, 0xAA, 0x2D, g, (packHeader d n (BitVec.ofNat 6 p.length)).1, (packHeader d n (BitVec.ofNat 6 p.length)).2] ++
        p ++ [hiByte c, loByte c, 0xAA, 0xAA, 0xAA] := by
  simp [wireBytes, storedBytes, coveredBytes, Config.preamble, Config.sync, Config.pad]

/-- Settles O12: the uncapped frame is the list asked for, and `encodeFrame` takes its front. -/
theorem frameBuilderLayout : Obligations.FrameBuilderLayout := by
  intro m g d n p
  refine ⟨_, _, crc16 (coveredBytes d (senderField n) (keptPayload p)), fullFrame g d n p, ?fields, rfl,
    wireBytes_eq_append .., fullFrame_length g d n p, ?capped, encodeFrame_length m g d n p⟩
  case fields => rw [← senderField_eq_getD, ← keptPayload_length]
  case capped => rw [encodeFrame, keptPayload_length]

/-- Settles O13: the payload kept is the one asked for, and at 63 bytes the length field is full. -/
theorem oversizePayloadIsTruncated : Obligations.OversizePayloadIsTruncated := by
  refine fun m g d n p => ⟨(encodeFrame_keptPayload m g d n p).symm,
    fun hp hm => ⟨_, encodeFrame_getElem?_six hm g d n p, ?_⟩⟩
  rw [packHeader_snd_mod, keptPayload_length, Nat.min_eq_right hp]
  rfl

end Sys2Proof.Machine
end

section
/-!
SUPPORT. A reception as a run of events (R66 to R73), and what `POLL_FRAME` makes of the frame it seals (R85). This settles O55.
-/

namespace Sys2Proof.Machine

/-! ## The views of `rxBuf` -/

/-- The first bytes of `rxBuf` are its header view and then its payload view (R13). -/
theorem State.rxBytes_header_payload (s : State) (l : Nat) :
    s.rxBytes (l + 2) = s.readRx 0 :: s.readRx 1 :: s.rxPayload l := by
  rw [State.rxBytes, Nat.add_comm, List.range_add, List.map_append, List.map_map]
  rfl

/-- Bytes stored from the start of `rxBuf` are read back at their offsets. -/
theorem State.readRx_of_rxBytes {s : State} {n : Nat} {bytes : List Byte} (h : s.rxBytes n = bytes.take n) {i : Nat}
    (hi : i < n) : bytes[i]? = some (s.readRx i) := by
  rw [← List.getElem?_take_of_lt hi, ← h, State.rxBytes, List.getElem?_map, List.getElem?_range hi]
  rfl

/-! ## One event -/

/-- While a frame comes in, an event takes a byte and seals the frame if that is due (R65, R89). -/
theorem exec_irq_receiving {s : State} (hl : s.linkState = .listening ∨ s.linkState = .receiving)
    (hc : s.rxCursor.toNat < s.params.maxPacket) : exec .irq s = .next s.takeByte.sealIfDue := by
  have hstep : receiveStep s = .next s.takeByte.sealIfDue := receiveStep_next.2 ⟨hc, rfl⟩
  rcases hl with hl | hl <;> simp only [exec, execIrq, hl, hstep]

/-- A fresh reception has its bookkeeping right, with no byte stored (R27 item 4). -/
theorem State.FreshReception.stored {s : State} (h : s.FreshReception) : s.Stored ∧ s.CrcFollows := by
  obtain ⟨hc, hlen, hcrc, -⟩ := h
  have hc0 : s.rxCursor.toNat = 0 := congrArg BitVec.toNat hc
  refine ⟨⟨by omega, fun _ => hlen, by omega, by omega, fun i hi => by omega⟩, ?_⟩
  rw [State.CrcFollows, hcrc, hc0, Nat.zero_min]
  rfl

/-! ## The run -/

/-- `t` is `s` after the first `k` of the bytes to come have been taken and not sealed: they stand in `rxBuf` with their
bookkeeping right, the others are to come, and what the host has set or been given is as before. -/
structure State.Took (s : State) (bytes later : List Byte) (k : Nat) (t : State) : Prop where
  active : t.linkState = .listening ∨ t.linkState = .receiving
  cursor : t.rxCursor.toNat = k
  stored : t.Stored
  crc : t.CrcFollows
  rxBytes : t.rxBytes k = bytes.take k
  draws : t.env.fifoDraws = bytes.drop k ++ later
  params : t.params = s.params
  nodeId : t.nodeId = s.nodeId
  hostPhase : t.hostPhase = s.hostPhase
  constructed : t.constructed = s.constructed
  returns : t.returns = s.returns

section
variable {s t : State} {bytes later : List Byte} {k : Nat}

/-- At the start nothing has been taken. -/
theorem State.Took.start (hl : s.linkState = .listening) (hf : s.FreshReception)
    (hdraws : s.env.fifoDraws = bytes ++ later) : s.Took bytes later 0 s where
  active := .inl hl
  cursor := congrArg BitVec.toNat hf.1
  stored := hf.stored.1
  crc := hf.stored.2
  rxBytes := rfl
  draws := hdraws
  params := rfl
  nodeId := rfl
  hostPhase := rfl
  constructed := rfl
  returns := rfl

/-- One more byte is taken when no seal was due (R67 to R71). -/
theorem State.Took.takeByte (h : s.Took bytes later k t) (hp : s.params.Valid) (hk : k < bytes.length)
    (hd : t.sealDue = false) : s.Took bytes later (k + 1) t.takeByte := by
  have hp' : t.params.Valid := h.params ▸ hp
  have hdraws : t.env.fifoDraws = bytes[k] :: (bytes.drop (k + 1) ++ later) := by
    rw [h.draws, List.drop_eq_getElem_cons hk, List.cons_append]
  have hcur : t.takeByte.rxCursor.toNat = t.rxCursor.toNat + 1 :=
    State.takeByte_cursor hp' (Nat.lt_of_le_of_ne h.stored.cursorLe (State.sealDue_eq_false.1 hd).2)
  exact {
    active := .inr rfl
    cursor := hcur.trans (congrArg (· + 1) h.cursor)
    stored := h.stored.takeByte hp' hd
    crc := h.crc.takeByte hcur
    rxBytes := by
      have htaken := t.takeByte_rxBytes_succ
      rw [h.cursor, h.rxBytes, State.fifoReply_cons hdraws] at htaken
      rw [htaken, List.take_concat_get' bytes k hk]
    draws := by rw [State.takeByte_env, Env.popFifo_cons hdraws]
    params := h.params
    nodeId := h.nodeId
    hostPhase := h.hostPhase
    constructed := h.constructed
    returns := h.returns }

end

section
variable {s t : State} {d n : NodeId} {p later : List Byte} {c : Word16} {k : Nat}

/-- Once the header is in, the length latched is the payload's (R68). -/
theorem State.Took.rxLen (h : s.Took (storedBytes d n p c) later k t) (hp : p.length ≤ 63) (hk : 2 ≤ k) :
    t.rxLen.toNat = p.length := by
  have hbyte : (packHeader d n (BitVec.ofNat 6 p.length)).2 = t.readRx 1 :=
    Option.some.inj (State.readRx_of_rxBytes h.rxBytes hk)
  rw [h.stored.lenLatched (h.cursor.symm ▸ hk), ← hbyte, lengthField_toNat, packHeader_snd_mod]
  exact Nat.mod_eq_of_lt (by omega)

/-- The seal falls due with the frame's last byte and not before (R72). -/
theorem State.Took.sealDue_iff (h : s.Took (storedBytes d n p c) later k t) (hp : p.length ≤ 63)
    (hfit : p.length + 4 ≤ s.params.maxPacket) (hk : k ≤ p.length + 4) : t.sealDue = true ↔ k = p.length + 4 := by
  rw [State.sealDue_iff, h.cursor, h.params]
  by_cases h2 : 2 ≤ k
  · have := h.rxLen hp h2
    omega
  · have hlen : t.rxLen.toNat = 0 := congrArg BitVec.toNat (h.stored.lenUnset (h.cursor.symm ▸ by omega))
    omega

/-- While bytes are missing an event takes the next one, and then the seal is looked at (R65). -/
theorem State.Took.event (h : s.Took (storedBytes d n p c) later k t) (hvalid : s.params.Valid) (hp : p.length ≤ 63)
    (hfit : p.length + 4 ≤ s.params.maxPacket) (hk : k < p.length + 4) :
    exec .irq t = .next t.takeByte.sealIfDue ∧ s.Took (storedBytes d n p c) later (k + 1) t.takeByte := by
  have hd : t.sealDue = false := by
    rw [← Bool.not_eq_true, h.sealDue_iff hp hfit hk.le]
    exact hk.ne
  have hroom : t.rxCursor.toNat < t.params.maxPacket := by
    rw [h.cursor, h.params]
    exact hk.trans_le hfit
  exact ⟨exec_irq_receiving h.active hroom,
    h.takeByte hvalid (by rw [storedBytes_length]; omega) hd⟩

/-- The events before the last one take the frame byte by byte. -/
theorem irqEvents_took (hvalid : s.params.Valid) (hl : s.linkState = .listening) (hf : s.FreshReception)
    (hp : p.length ≤ 63) (hfit : p.length + 4 ≤ s.params.maxPacket)
    (hdraws : s.env.fifoDraws = storedBytes d n p c ++ later) (hk : k < p.length + 4) :
    ∃ t, irqEvents k s = .next t ∧ s.Took (storedBytes d n p c) later k t := by
  induction k with
  | zero => exact ⟨s, rfl, .start hl hf hdraws⟩
  | succ k ih =>
    obtain ⟨t, hrun, htook⟩ := ih (by omega)
    obtain ⟨hevent, hnext⟩ := htook.event hvalid hp hfit (by omega)
    have hd : t.takeByte.sealDue = false := by
      rw [← Bool.not_eq_true, hnext.sealDue_iff hp hfit hk.le]
      exact hk.ne
    rw [State.sealIfDue, hd] at hevent
    exact ⟨t.takeByte, irqEvents_then hrun hevent, hnext⟩

/-- As many events as the frame has bytes take all of it and seal it (R72, R73). -/
theorem irqEvents_seals (hvalid : s.params.Valid) (hl : s.linkState = .listening) (hf : s.FreshReception)
    (hp : p.length ≤ 63) (hfit : p.length + 4 ≤ s.params.maxPacket)
    (hdraws : s.env.fifoDraws = storedBytes d n p c ++ later) :
    ∃ t, irqEvents (p.length + 4) s = .next t.sealFrame ∧ s.Took (storedBytes d n p c) later (p.length + 4) t := by
  obtain ⟨t, hrun, htook⟩ := irqEvents_took hvalid hl hf hp hfit hdraws (Nat.lt_succ_self (p.length + 3))
  obtain ⟨hevent, hnext⟩ := htook.event hvalid hp hfit (Nat.lt_succ_self _)
  rw [State.sealIfDue, (hnext.sealDue_iff hp hfit le_rfl).2 rfl] at hevent
  exact ⟨t.takeByte, irqEvents_then hrun hevent, hnext⟩

/-! ## The sealed frame -/

/-- When all bytes are in, those that the CRC covers stand before the trailer (R13, R47). -/
theorem State.Took.covered_trailer (h : s.Took (storedBytes d n p c) later (p.length + 4) t) (hp : p.length ≤ 63) :
    t.rxBytes (p.length + 2) = coveredBytes d n p ∧ t.rxTrailerHi = hiByte c ∧ t.rxTrailerLo = loByte c := by
  have hbytes : t.rxBytes (p.length + 2) ++ [t.readRx (p.length + 2), t.readRx (p.length + 3)] =
      coveredBytes d n p ++ [hiByte c, loByte c] := by
    rw [List.append_cons, ← State.rxBytes_succ, ← State.rxBytes_succ, h.rxBytes]
    exact List.take_of_length_le (by rw [storedBytes_length]; omega)
  obtain ⟨hcovered, htrailer⟩ := List.append_inj' hbytes rfl
  obtain ⟨hhi, htail⟩ := List.cons.inj htrailer
  rw [State.rxTrailerHi, State.rxTrailerLo, h.rxLen hp (by omega)]
  exact ⟨hcovered, hhi, (List.cons.inj htail).1⟩

/-- The frame taken has a right CRC if the sender's was right (R73). -/
theorem State.Took.crcVerdict (h : s.Took (storedBytes d n p (crc16 (coveredBytes d n p))) later (p.length + 4) t)
    (hp : p.length ≤ 63) : t.crcVerdict = true := by
  obtain ⟨hcovered, hhi, hlo⟩ := h.covered_trailer hp
  have hlen := h.rxLen hp (by omega)
  have hcrc : t.rxCrc = crc16 (t.rxBytes (p.length + 2)) := by
    rw [h.crc, h.cursor, hlen, Nat.min_eq_right (by omega)]
  rw [State.crcVerdict_iff, h.cursor, hlen, hhi, hlo, bigEndian_hiByte_loByte, hcrc, hcovered]
  exact ⟨rfl, rfl⟩

/-- Covered bytes in `rxBuf` are read as the header and the payload they were made of (R59, R60). -/
theorem State.views_of_covered {t : State} (h : t.rxBytes (p.length + 2) = coveredBytes d n p) :
    t.rxHeader = { destination := d, sender := n, length := BitVec.ofNat 6 p.length } ∧ t.rxPayload p.length = p := by
  rw [State.rxBytes_header_payload, coveredBytes] at h
  obtain ⟨h0, h⟩ := List.cons.inj h
  obtain ⟨h1, hpayload⟩ := List.cons.inj h
  exact ⟨by rw [State.rxHeader, h0, h1, decodeHeader_packHeader], hpayload⟩

/-- What the poll looks at in such a frame: its address, its size, and the frame it would copy out (R85). -/
theorem State.receivedFrame_of_covered {t : State} (h : t.rxBytes (p.length + 2) = coveredBytes d n p)
    (hp : p.length ≤ 63) :
    t.receivedFrame = { sender := n, destination := d, payload := p } ∧
      (t.addressed = true ↔ d = t.nodeId ∨ d = 0) ∧
      (t.payloadInBounds = true ↔ p.length + 2 ≤ t.params.maxPacket) := by
  obtain ⟨hheader, hpayload⟩ := State.views_of_covered h
  have hlen : (BitVec.ofNat 6 p.length).toNat = p.length := Nat.mod_eq_of_lt (by omega)
  simp [State.receivedFrame, State.addressed, State.payloadInBounds, hheader, hlen, hpayload, Config.broadcast]

end

/-! ## `POLL_FRAME` on a sealed frame -/

/-- A sealed frame whose payload lies in the buffer is consumed (R85). -/
theorem exec_pollFrame_sealed {s : State} (hphase : s.hostPhase = .none) (hc : s.constructed = true)
    (hl : s.linkState = .receiveComplete) (ha : s.rxAvailable = true) (hb : s.payloadInBounds = true) :
    exec .pollFrame s = .next s.consumeFrame := by
  simp [exec, execPollFrame, State.asHost_none hphase, State.withIdentity_constructed hc, State.frameAvailable, hl, ha, hb]

/-- What consuming a frame gives back and where it leaves the node (R79, R85). -/
theorem State.consumeFrame_result (s : State) :
    s.consumeFrame.linkState = .listening ∧
      s.consumeFrame.returns = s.returns ++
        [.polled (if s.addressed && s.rxCrcValid then some s.receivedFrame else none)] := by
  unfold State.consumeFrame
  split <;> exact ⟨rfl, rfl⟩

/-- Settles O55: the events take and seal the frame (`irqEvents_seals`), and the poll reads it off the views of `rxBuf`. -/
theorem frameIsReceivedAsSent : Obligations.FrameIsReceivedAsSent := by
  intro s d n p later hvalid hl hf hphase hc hp hfit hdraws
  obtain ⟨t, hrun, htook⟩ := irqEvents_seals hvalid hl hf hp hfit hdraws
  have hverdict : t.sealFrame.rxCrcValid = true := htook.crcVerdict hp
  obtain ⟨hframe, haddressed, hbounds⟩ :=
    State.receivedFrame_of_covered (t := t.sealFrame) (htook.covered_trailer hp).1 hp
  have hin : p.length + 2 ≤ t.sealFrame.params.maxPacket := by
    rw [State.sealFrame_params, htook.params]
    omega
  obtain ⟨hlistening, hreturns⟩ := t.sealFrame.consumeFrame_result
  refine ⟨t.sealFrame, t.sealFrame.consumeFrame, hrun, rfl, rfl, hverdict, ?draws, htook.nodeId,
    exec_pollFrame_sealed (htook.hostPhase.trans hphase) (htook.constructed.trans hc) rfl rfl (hbounds.2 hin),
    hlistening, ?returns⟩
  case draws =>
    rw [State.sealFrame_env, htook.draws, List.drop_of_length_le (by rw [storedBytes_length]; omega), List.nil_append]
  case returns =>
    rw [State.sealFrame_nodeId, htook.nodeId] at haddressed
    rw [hreturns, hverdict, Bool.and_true, hframe, State.sealFrame_returns, htook.returns]
    simp only [haddressed]

end Sys2Proof.Machine
end

section
/-!
SUPPORT. What one event does (R65 to R77): where it does nothing, what it takes in and when it seals, and which side it leaves
alone. This settles O28 to O34 and O49.
-/

namespace Sys2Proof.Machine

/-! ## One byte, without and with the seal -/

section
variable {s : State}

/-- A byte that reaches neither the natural length nor the capacity is taken and nothing more (R67 to R72). -/
theorem exec_irq_takes (hp : s.params.Valid) (hl : s.linkState = .listening ∨ s.linkState = .receiving)
    (hroom : s.rxCursor.toNat + 1 < s.params.maxPacket)
    (hshort : s.rxCursor.toNat + 1 ≠ s.takeByte.rxLen.toNat + 4) :
    exec .irq s = .next s.takeByte := by
  have hcur : s.takeByte.rxCursor.toNat = s.rxCursor.toNat + 1 := State.takeByte_cursor hp (by omega)
  have hd : s.takeByte.sealDue = false := State.sealDue_eq_false.2 (hcur ▸ ⟨hshort, hroom.ne⟩)
  rw [exec_irq_receiving hl (by omega), State.sealIfDue, hd, if_neg Bool.false_ne_true]

/-- A byte that reaches the natural length or the capacity is taken and seals the frame (R72, R73). -/
theorem exec_irq_seals (hp : s.params.Valid) (hl : s.linkState = .listening ∨ s.linkState = .receiving)
    (hroom : s.rxCursor.toNat < s.params.maxPacket)
    (hlast : s.rxCursor.toNat + 1 = s.takeByte.rxLen.toNat + 4 ∨ s.rxCursor.toNat + 1 = s.params.maxPacket) :
    exec .irq s = .next s.takeByte.sealFrame := by
  have hcur : s.takeByte.rxCursor.toNat = s.rxCursor.toNat + 1 := State.takeByte_cursor hp hroom
  have hd : s.takeByte.sealDue = true := State.sealDue_iff.2 (hcur ▸ hlast)
  rw [exec_irq_receiving hl hroom, State.sealIfDue, if_pos hd]

/-- Beyond the header a byte leaves the length as it was latched (R15, R68). -/
theorem State.takeByte_rxLen_beyond_header (h : 2 ≤ s.rxCursor.toNat) : s.takeByte.rxLen = s.rxLen :=
  lenAfter_other (by omega) _ _

/-- What a byte beyond the header writes (R67, R69 to R71). -/
theorem State.takeByte_beyond_header (h : 2 ≤ s.rxCursor.toNat) :
    s.takeByte = { s with
      linkState := .receiving
      rxBuf := s.rxBuf.write s.rxCursor.toNat s.fifoReply
      rxCrc := crcAfter s.rxCursor.toNat s.rxLen s.rxCrc s.fifoReply
      rxCursor := s.rxCursor + 1#7
      trace := s.trace ++ [.fifoRead s.fifoReply]
      env := s.env.popFifo } := by
  rw [State.takeByte, lenAfter_other (by omega)]
  rfl

/-- The byte beyond the header that seals a frame: the requests in the order of R67 and R73. -/
theorem State.takeByte_sealFrame_beyond_header (h : 2 ≤ s.rxCursor.toNat) :
    s.takeByte.sealFrame = { s with
      linkState := .receiveComplete
      rxBuf := s.rxBuf.write s.rxCursor.toNat s.fifoReply
      rxCrc := crcAfter s.rxCursor.toNat s.rxLen s.rxCrc s.fifoReply
      rxCursor := 0
      rxAvailable := true
      rxCrcValid := s.takeByte.crcVerdict
      trace := s.trace ++ [.fifoRead s.fifoReply, .idle, .fifoDrain]
      env := s.env.popFifo } := by
  have htrace : s.takeByte.sealFrame.trace = s.trace ++ [.fifoRead s.fifoReply, .idle, .fifoDrain] := by simp
  rw [← htrace, State.sealFrame, State.takeByte_beyond_header h]
  rfl

/-- The verdict at the last trailer byte compares the accumulator with that byte and the one before it (R73). -/
theorem State.takeByte_crcVerdict_natural (hp : s.params.Valid) (hc : s.rxCursor.toNat = s.rxLen.toNat + 3)
    (hroom : s.rxCursor.toNat < s.params.maxPacket) :
    s.takeByte.crcVerdict = (s.rxCrc == s.readRx (s.rxLen.toNat + 2) ++ s.fifoReply) := by
  have hcur : s.takeByte.rxCursor.toNat = s.rxCursor.toNat + 1 := State.takeByte_cursor hp hroom
  have hlen : s.takeByte.rxLen = s.rxLen := State.takeByte_rxLen_beyond_header (by omega)
  have hcrc : s.takeByte.rxCrc = s.rxCrc := crcAfter_trailer (by omega) (by omega) _ _
  have hhi : s.takeByte.rxTrailerHi = s.readRx (s.rxLen.toNat + 2) := by
    rw [State.rxTrailerHi, hlen, State.readRx_takeByte_other s (by omega)]
  have hlo : s.takeByte.rxTrailerLo = s.fifoReply := by
    rw [State.rxTrailerLo, hlen, ← hc, State.readRx_takeByte_same]
  rw [Bool.eq_iff_iff, State.crcVerdict_iff, hcur, hlen, hcrc, hhi, hlo, beq_iff_eq, bigEndian]
  exact and_iff_right (by omega)

/-- Short of the natural length the verdict is no, whatever the bytes (R73, R97). -/
theorem State.takeByte_crcVerdict_short (hp : s.params.Valid) (hroom : s.rxCursor.toNat < s.params.maxPacket)
    (hshort : s.rxCursor.toNat + 1 ≠ s.takeByte.rxLen.toNat + 4) : s.takeByte.crcVerdict = false := by
  rw [← Bool.not_eq_true, State.crcVerdict_iff, State.takeByte_cursor hp hroom]
  exact fun hverdict => hshort hverdict.1

end

/-! ## The receive sequencer -/

/-- Settles O28: in `Idle` and `ReceiveComplete` the dispatch answers the state it was given (R89). -/
theorem eventIsNoOpWhenInactive : Obligations.EventIsNoOpWhenInactive := by
  rintro s (hl | hl) <;> simp only [exec, execIrq, hl]

/-- Settles O29: with the cursor below 2 neither the least capacity nor the least frame, 4 bytes each, is reached. -/
theorem headerByteIsStored : Obligations.HeaderByteIsStored := by
  intro s hp hl hc
  have hmin : 4 ≤ s.params.maxPacket := hp.1
  rw [exec_irq_takes hp hl (by omega) (by omega), State.takeByte, crcAfter_covered (.inl hc)]
  rfl

/-- Settles O30: the byte lies in the covered part and before the trailer. -/
theorem payloadByteIsStored : Obligations.PayloadByteIsStored := by
  intro s hp hl h2 hc hroom
  have hlen : s.takeByte.rxLen = s.rxLen := State.takeByte_rxLen_beyond_header (by omega)
  rw [exec_irq_takes hp hl hroom (by rw [hlen]; omega), State.takeByte_beyond_header h2,
    crcAfter_covered (.inr (by omega))]

/-- Settles O31: the byte lies beyond the covered part, and one more is to come. -/
theorem trailerByteIsNotAccumulated : Obligations.TrailerByteIsNotAccumulated := by
  intro s hp hl hc hroom
  have hlen : s.takeByte.rxLen = s.rxLen := State.takeByte_rxLen_beyond_header (by omega)
  rw [exec_irq_takes hp hl hroom (by rw [hlen]; omega), State.takeByte_beyond_header (by omega),
    crcAfter_trailer (by omega) hc.ge]

/-- Settles O32: the byte completes the natural length, so the frame is sealed and the verdict is the comparison. -/
theorem lastByteSealsTheFrame : Obligations.LastByteSealsTheFrame := by
  intro s hp hl hc hroom
  have hlen : s.takeByte.rxLen = s.rxLen := State.takeByte_rxLen_beyond_header (by omega)
  rw [exec_irq_seals hp hl hroom (.inl (by rw [hlen, hc])), State.takeByte_sealFrame_beyond_header (by omega),
    State.takeByte_crcVerdict_natural hp hc hroom, crcAfter_trailer (by omega) (by omega)]

/-- Settles O33: the byte fills the buffer, so the frame is sealed, and it is short of its natural length. -/
theorem capacityGuardSealsInvalid : Obligations.CapacityGuardSealsInvalid := by
  intro s hp hl hfull hshort
  have hmin : 4 ≤ s.params.maxPacket := hp.1
  have hlen : s.takeByte.rxLen = s.rxLen := State.takeByte_rxLen_beyond_header (by omega)
  have hverdict : s.takeByte.crcVerdict = false :=
    State.takeByte_crcVerdict_short hp (by omega) (by rw [hlen]; omega)
  have hcrc : crcAfter s.rxCursor.toNat s.rxLen s.rxCrc s.fifoReply =
      if s.rxCursor.toNat < s.rxLen.toNat + 2 then crc16Update s.rxCrc s.fifoReply else s.rxCrc := by
    split
    next h => exact crcAfter_covered (.inr h) _ _
    next h => exact crcAfter_trailer (by omega) (by omega) _ _
  rw [exec_irq_seals hp hl (by omega) (.inr hfull), State.takeByte_sealFrame_beyond_header (by omega), hverdict, hcrc]

/-! ## What an event leaves alone -/

/-- What no event writes: the identity, what the host has set or been given, and the parameters (R9, R65, R75). -/
abbrev State.SameHostSide (s t : State) : Prop :=
  s.SameIdentity t ∧ t.hostPhase = s.hostPhase ∧ t.returns = s.returns ∧ t.raised = s.raised ∧ t.params = s.params

section
variable {s t : State}

/-- A receive step stores the byte taken and leaves the transmit side and the host side alone (R65). -/
theorem receiveStep_frame (h : receiveStep s = .next t) :
    t.rxBuf = s.takeByte.rxBuf ∧ s.SameTransmitSide t ∧ s.SameHostSide t := by
  obtain ⟨-, ⟨-, rfl⟩ | ⟨-, rfl⟩⟩ := receiveStep_cases h <;>
    simp [State.SameTransmitSide, State.SameHostSide, State.SameIdentity]

/-- A push and the completion leave the frame to send, the receive side and the host side alone (R75 to R77). -/
theorem transmitStep_frame (h : t = s.pushByte ∨ t = s.completeSend) :
    s.SameReceiveSide t ∧ t.txBuf = s.txBuf ∧ t.txLen = s.txLen ∧ t.env = s.env ∧ s.SameHostSide t := by
  rcases h with rfl | rfl <;> simp [State.SameReceiveSide, State.SameHostSide, State.SameIdentity]

/-- An event is nothing, a receive step, or in `Sending` a step that leaves what is received and to be sent alone (R89). -/
theorem exec_irq_sides (h : exec .irq s = .next t) :
    (s.linkState = .idle ∨ s.linkState = .receiveComplete) ∧ t = s ∨
    (s.linkState = .listening ∨ s.linkState = .receiving) ∧ receiveStep s = .next t ∨
    s.linkState = .sending ∧ s.SameReceiveSide t ∧ t.txBuf = s.txBuf ∧ t.txLen = s.txLen ∧ t.env = s.env ∧
      s.SameHostSide t := by
  rcases execIrq_next h with hidle | hreceive | ⟨hl, -, rfl⟩ | ⟨hl, -, rfl⟩
  · exact .inl hidle
  · exact .inr (.inl hreceive)
  · exact .inr (.inr ⟨hl, transmitStep_frame (.inl rfl)⟩)
  · exact .inr (.inr ⟨hl, transmitStep_frame (.inr rfl)⟩)

end

/-- Settles O34: a receive step writes one cell, and the other events leave both buffers alone. -/
theorem eventStoresOneByte : Obligations.EventStoresOneByte := by
  intro s t h
  rcases exec_irq_sides h with ⟨hl, rfl⟩ | ⟨hl, hstep⟩ | ⟨hl, hrx, htx, -⟩
  · exact ⟨fun hr => by rcases hl with hl | hl <;> simp [hl] at hr, fun _ _ => rfl, fun _ => rfl⟩
  · obtain ⟨hbuf, htx, -⟩ := receiveStep_frame hstep
    have hread := State.readRx_congr hbuf
    exact ⟨fun _ => ⟨(hread _).trans s.readRx_takeByte_same, fun a ha => (hread a).trans (s.readRx_takeByte_other ha)⟩,
      fun hr => absurd hl hr, State.readTx_congr htx.1⟩
  · exact ⟨fun hr => by simp [hl] at hr, fun _ => State.readRx_congr hrx.1, State.readTx_congr htx⟩

/-- Settles O49: a receive step keeps to the receive side, and a step in `Sending` to the transmit side. -/
theorem eventTouchesOneSide : Obligations.EventTouchesOneSide := by
  intro s t h
  rcases exec_irq_sides h with ⟨hl, rfl⟩ | ⟨hl, hstep⟩ | ⟨hl, hrx, hbuf, hlen, henv, hid, hphase, hret, hraised, hp⟩
  · exact ⟨⟨rfl, rfl, rfl, rfl⟩, rfl, rfl, rfl, rfl, fun _ => ⟨⟨rfl, rfl, rfl, rfl, rfl, rfl⟩, rfl, rfl, rfl⟩,
      fun _ => ⟨rfl, rfl, rfl⟩⟩
  · obtain ⟨-, htx, hid, hphase, hret, hraised, hp⟩ := receiveStep_frame hstep
    exact ⟨hid, hphase, hret, hraised, hp, fun hs => by rcases hl with hl | hl <;> simp [hl] at hs, fun _ => htx⟩
  · exact ⟨hid, hphase, hret, hraised, hp, fun _ => ⟨hrx, hbuf, hlen, henv⟩, fun hs => absurd hl hs⟩

end Sys2Proof.Machine
end

section
/-!
SUPPORT. What one event does in `Sending` (R75 to R77), and the counting law of a whole transmission (R78). This settles O36 to
O38.
-/

namespace Sys2Proof.Machine

/-! ## One event -/

section
variable {s : State}

/-- Where the push arm is due, the event pushes a byte (R76). -/
theorem exec_irq_pushes (hl : s.linkState = .sending) (hlen : s.txCursor.toNat < s.txLen.toNat)
    (hcap : s.txCursor.toNat < s.params.maxSignal) : exec .irq s = .next s.pushByte := by
  rw [exec_irq_sending hl, transmitStep, if_pos (State.pushDue_iff.2 ⟨hlen, hcap⟩)]

/-- Where the push arm is not due, the event completes the send (R77). -/
theorem exec_irq_completes (hl : s.linkState = .sending)
    (hdone : ¬ (s.txCursor.toNat < s.txLen.toNat ∧ s.txCursor.toNat < s.params.maxSignal)) :
    exec .irq s = .next s.completeSend := by
  rw [exec_irq_sending hl, transmitStep, if_neg (mt State.pushDue_iff.1 hdone)]

/-- What the completion arm writes, the requests in the order of R77. -/
theorem State.completeSend_eq (s : State) :
    s.completeSend = { s with linkState := .idle, trace := s.trace ++ [.idle, .fifoWrite 0xAA] } := by
  have htrace : s.completeSend.trace = s.trace ++ [.idle, .fifoWrite 0xAA] := by
    rw [State.completeSend_trace, List.append_assoc]
    rfl
  rw [← htrace]
  rfl

end

/-- Settles O36: the event takes the push arm, whose writes are those of the statement. -/
theorem transmitPushesNextByte : Obligations.TransmitPushesNextByte := by
  intro s hl hlen hcap
  exact exec_irq_pushes hl hlen hcap

/-- Settles O37: the event takes the completion arm, whose writes are `State.completeSend_eq`. -/
theorem transmitCompletesToIdle : Obligations.TransmitCompletesToIdle := by
  intro s hl hdone
  rw [exec_irq_completes hl hdone, State.completeSend_eq]

/-! ## The whole transmission -/

section
variable {s : State}

/-- Any number of events does nothing in `Idle` and `ReceiveComplete` (R74, R89). -/
theorem irqEvents_of_inactive (h : s.linkState = .idle ∨ s.linkState = .receiveComplete) (k : Nat) :
    irqEvents k s = .next s := by
  induction k with
  | zero => rfl
  | succ k ih => rw [irqEvents_succ (eventIsNoOpWhenInactive s h), ih]

/-- The completed transmission, its cursor at the frame's end (R77, R78). -/
theorem State.pushed_txLen_completeSend (s : State) :
    (s.pushed s.txLen.toNat).completeSend = { s with
      linkState := .idle
      txCursor := s.txLen
      trace := s.trace ++ (List.range s.txLen.toNat).map (fun j => .fifoWrite (s.readTx j)) ++
        [.idle, .fifoWrite 0xAA] } := by
  rw [State.completeSend_eq, State.pushed, BitVec.ofNat_toNat, BitVec.setWidth_eq]

end

/-- Settles O38: the first `txLen` events push the frame, the next completes the send, and the rest find `Idle`. -/
theorem transmissionDrainsExactly : Obligations.TransmissionDrainsExactly := by
  intro s hl hc hfit
  refine ⟨fun k hk => irqEvents_pushed hl hc hfit hk, fun extra => ?_⟩
  rw [irqEvents_add (irqEvents_completeSend hl hc hfit), irqEvents_of_inactive (.inl rfl),
    State.pushed_txLen_completeSend]

end Sys2Proof.Machine
end

section
/-!
SUPPORT. The operations that finish in one step: `CONSTRUCT` (R80), `BEGIN` (R81) and `CAN_TRANSMIT` (R82). This settles O14, O15,
O17 and O19.
-/

namespace Sys2Proof.Machine

/-! ## `CONSTRUCT` -/

/-- A member of the enumeration is taken as it is (log 8). -/
theorem State.bandOperand_of_lt {s : State} {b : Band} (h : b < s.params.bandCount) : s.bandOperand b = b :=
  Nat.mod_eq_of_lt h

/-- Settles O14: `exec_construct_of_free` with a band that reducing leaves alone. That the node id is legal is not needed. -/
theorem constructLoadsIdentity : Obligations.ConstructLoadsIdentity := by
  intro s b g n hp hb _
  rw [exec_construct_of_free hp, State.bandOperand_of_lt hb]
  rfl

/-- Settles O15: `exec_construct_of_free` holds for node id 0 as well. -/
theorem constructRunsNodeZero : Obligations.ConstructRunsNodeZero := by
  intro s b g hp hb
  exact ⟨_, exec_construct_of_free hp b g 0, State.bandOperand_of_lt hb, rfl, rfl, rfl, rfl, rfl, rfl, rfl, rfl, rfl⟩

/-! ## `BEGIN` and `CAN_TRANSMIT` -/

/-- Settles O17: by the registers' having a value or not (`State.withIdentity`). -/
theorem beginConfiguresAndIdles : Obligations.BeginConfiguresAndIdles := by
  intro s hp
  refine ⟨fun hc => ?constructed, fun hc => ?unset⟩
  case constructed =>
    simp only [exec, execBeginOp, State.asHost_none hp, State.withIdentity_constructed hc]
    rfl
  case unset => simp only [exec, execBeginOp, State.asHost_none hp, State.withIdentity_unset hc]

/-- The two requests of the clear path follow the draw (R82). -/
theorem State.statusRead_clearChannel (s : State) :
    s.statusRead.clearChannel = { s with
      linkState := .idle
      trace := s.trace ++ [.statusRead s.carrierReply, .idle, .fifoDrain]
      env := s.env.popStatus } := by
  have htrace : s.statusRead.clearChannel.trace = s.trace ++ [.statusRead s.carrierReply, .idle, .fifoDrain] := by simp
  rw [← htrace]
  rfl

/-- Settles O19: by the draw, from whatever link state. -/
theorem canTransmitBusyAndClear : Obligations.CanTransmitBusyAndClear := by
  intro s hp
  have hrun : exec .canTransmit s = .next (if s.carrierReply then (s.statusRead.raise .channelBusy).give (.clear false)
      else s.statusRead.clearChannel.give (.clear true)) := by
    simp only [exec, execCanTransmit, State.asHost_none hp]
  refine ⟨fun hbusy => ?busy, fun hclear => ?clear⟩
  case busy =>
    rw [hrun, if_pos hbusy, ← hbusy]
    rfl
  case clear =>
    rw [hrun, hclear, if_neg Bool.false_ne_true, State.statusRead_clearChannel, hclear]
    rfl

end Sys2Proof.Machine
end

section
/-!
SUPPORT. `WRITE_FRAME`: the wait (R83) and the arming step (R84). This settles O20 and O21.
-/

namespace Sys2Proof.Machine

/-! ## The wait -/

section
variable {s : State} {d : NodeId} {a : Bool} {p : List Byte} {ts : List Turn}

/-- A host turn in the wait is the observe step (R83). -/
theorem step_of_waiting (hp : s.hostPhase = .writeWaiting d a p) (ht : s.env.turns = .host :: ts) :
    step s = .next (observeStep d a p (s.withTurns ts)) := by
  have hfetch : fetch s = .proceed (s.withTurns ts) :=
    (fetch_of_turn ht).trans (fetchHost_of_held (by simp [hp]))
  simp only [step, hfetch, hostProceed, State.withTurns_hostPhase, hp]

/-- The turn of a give-up, taken or not (log 20). -/
theorem step_of_timeout (ht : s.env.turns = .timeout :: ts) : step s = .next (hostTimeout (s.withTurns ts)) := by
  have hfetch : fetch s = .timeout (s.withTurns ts) := fetch_of_turn ht
  simp only [step, hfetch]

/-- The held wait gives up where the parameter lets it (R83). -/
theorem hostTimeout_gives_up (hp : s.hostPhase = .writeWaiting d a p) (hl : s.linkState = .receiving)
    (he : s.params.spinTimeoutEnable = true) :
    hostTimeout s = { s with
      hostPhase := .none
      returns := s.returns ++ [.wStatus .staleReceptionStall]
      raised := s.raised ++ [.staleReceptionStall] } := by
  simp only [hostTimeout, hp, hl, he]
  rfl

/-- Where the wait may not give up nothing happens (log 20). -/
theorem hostTimeout_stays (h : s.params.spinTimeoutEnable = false ∨
    (∀ d a p, s.hostPhase ≠ .writeWaiting d a p) ∨ s.linkState ≠ .receiving) : hostTimeout s = s := by
  unfold hostTimeout
  split
  next d a p hp =>
    refine if_neg fun hgives => ?_
    obtain ⟨he, hl⟩ := Bool.and_eq_true_iff.1 hgives
    rcases h with hoff | hnowait | hnotheld
    · exact Bool.noConfusion (hoff.symm.trans he)
    · exact hnowait d a p hp
    · exact hnotheld (eq_of_beq hl)
  all_goals rfl

end

/-- Settles O20: the call is `execWriteFrame` past its two guards, and each turn of the wait is `step_of_waiting` or
`step_of_timeout`, split by what holds or ends it. -/
theorem writeFrameWaitPhase : Obligations.WriteFrameWaitPhase := by
  intro s d a p ts
  refine ⟨fun hp hc => ?call, fun hp ht hl => ?leaves, fun hp ht hl => ?held, fun hp ht hl he => ?givesUp,
    fun ht hno => ?stays⟩
  case call => simp only [exec, execWriteFrame, State.asHost_none hp, State.withIdentity_constructed hc]
  case leaves => exact (step_of_waiting hp ht).trans (congrArg Host.Outcome.next (if_neg hl))
  case held => exact (step_of_waiting hp ht).trans (congrArg Host.Outcome.next (if_pos hl))
  case givesUp =>
    rw [step_of_timeout ht, hostTimeout_gives_up (s := s.withTurns ts) hp hl he]
    exact ⟨_, rfl⟩
  case stays =>
    rw [step_of_timeout ht, hostTimeout_stays (s := s.withTurns ts) hno]
    rfl

/-! ## The arming step -/

/-- On carrier the operation ends with the draw (R84, R94). -/
theorem armStep_busy {s : State} (hc : s.carrierReply = true) (d : NodeId) (a : Bool) (p : List Byte) :
    armStep d a p s = { s with
      hostPhase := .none
      trace := s.trace ++ [.statusRead true]
      returns := s.returns ++ [.wStatus .channelBusy]
      raised := s.raised ++ [.channelBusy]
      env := s.env.popStatus } := by
  rw [armStep, if_pos hc, ← hc]
  rfl

/-- On a clear channel the frame is stored and the send armed, whatever `linkState` was (R84). -/
theorem armStep_clear {s : State} (hc : s.carrierReply = false) (d : NodeId) (a : Bool) (p : List Byte) :
    armStep d a p s = { s with
      hostPhase := .none
      txBuf := s.txBuf.writeAll 0 (s.frameToSend d a p)
      txLen := BitVec.ofNat 7 (s.frameToSend d a p).length
      txCursor := 0
      linkState := .sending
      trace := s.trace ++ [.statusRead false, .txOn]
      returns := s.returns ++ [.wStatus .ok]
      env := s.env.popStatus } := by
  have htrace : s.trace ++ [.statusRead false, .txOn] = s.trace ++ [.statusRead s.carrierReply] ++ [.txOn] := by
    rw [hc, List.append_assoc]
    rfl
  rw [armStep, if_neg (by simp [hc]), htrace]
  rfl

/-- Settles O21: a host turn after the wait is `armStep`, split by the draw. -/
theorem writeFrameArmingStep : Obligations.WriteFrameArmingStep := by
  intro s d a p ts hp ht
  rw [step_of_arming hp ht]
  refine ⟨fun hbusy => ?busy, fun hclear bytes hbytes => ?clear⟩
  case busy =>
    rw [armStep_busy (s := s.withTurns ts) hbusy]
    rfl
  case clear =>
    obtain rfl : bytes = s.frameToSend d a p := hbytes
    rw [armStep_clear (s := s.withTurns ts) hclear]
    rfl

end Sys2Proof.Machine
end

section
/-!
SUPPORT. `POLL_FRAME` in each link state (R85). This settles O23.
-/

namespace Sys2Proof.Machine

/-! ## The address filter -/

theorem State.addressed_iff {s : State} :
    s.addressed = true ↔ s.rxHeader.destination = s.nodeId ∨ s.rxHeader.destination = 0 := by
  simp [State.addressed, Config.broadcast]

/-- The class of a discarded frame, with the address filter as a proposition (R85, R100). -/
theorem State.discardClass_eq (s : State) :
    s.discardClass =
      if ¬ (s.rxHeader.destination = s.nodeId ∨ s.rxHeader.destination = 0) then .misaddressedFrame
      else if s.rxLen.toNat + 4 > s.params.maxPacket then .frameTruncationOverflow
      else .crcMismatch := by
  simp only [State.discardClass, ← State.addressed_iff, Bool.not_eq_true, Bool.not_eq_true']

/-! ## The four ways of a poll -/

section
variable {s : State} (hp : s.hostPhase = .none) (hc : s.constructed = true)
include hp hc

/-- From `Idle` a poll arms listening (R79, R85). -/
theorem exec_pollFrame_idle (hl : s.linkState = .idle) : exec .pollFrame s = .next (s.armListen.give (.polled none)) := by
  simp only [exec, execPollFrame, State.asHost_none hp, State.withIdentity_constructed hc, if_pos hl]

/-- An addressed and intact frame that lies in the buffer is returned (R85). -/
theorem exec_pollFrame_returns (hl : s.linkState = .receiveComplete) (ha : s.rxAvailable = true)
    (hd : s.addressed = true) (hv : s.rxCrcValid = true) (hb : s.payloadInBounds = true) :
    exec .pollFrame s = .next (s.armListen.give (.polled (some s.receivedFrame))) := by
  rw [exec_pollFrame_sealed hp hc hl ha hb, State.consumeFrame, hd, hv]
  rfl

/-- Any other sealed frame is discarded and classified (R85). -/
theorem exec_pollFrame_discards (hl : s.linkState = .receiveComplete) (ha : s.rxAvailable = true)
    (hd : (s.addressed && s.rxCrcValid) = false) :
    exec .pollFrame s = .next ((s.armListen.raise s.discardClass).give (.polled none)) := by
  rcases Bool.and_eq_false_iff.1 hd with hd | hd <;>
    simp [exec, execPollFrame, State.asHost_none hp, State.withIdentity_constructed hc, State.frameAvailable, hl, ha,
      State.consumeFrame, hd]

/-- With no frame available and the node not idle nothing happens (R85). -/
theorem exec_pollFrame_nothing (hl : s.linkState ≠ .idle) (ha : s.frameAvailable = false) :
    exec .pollFrame s = .next (s.give (.polled none)) := by
  simp [exec, execPollFrame, State.asHost_none hp, State.withIdentity_constructed hc, hl, ha]

end

/-- Settles O23: the four ways of a poll, with the header view as the decoded header `h`. -/
theorem pollFrameInEveryState : Obligations.PollFrameInEveryState := by
  intro s hp hc
  refine ⟨fun hl => ?idle, fun h hl ha hh hd hv hb => ?returned, fun h hl ha hh hd => ?discarded, fun hl => ?nothing⟩
  case idle => exact exec_pollFrame_idle hp hc hl
  case returned =>
    obtain rfl : h = s.rxHeader := hh
    exact exec_pollFrame_returns hp hc hl ha (State.addressed_iff.2 hd) hv (decide_eq_true hb)
  case discarded =>
    obtain rfl : h = s.rxHeader := hh
    rw [← State.addressed_iff, ← Bool.and_eq_true_iff, Bool.not_eq_true] at hd
    rw [exec_pollFrame_discards hp hc hl ha hd, State.discardClass_eq]
    rfl
  case nothing =>
    have ha : s.linkState ≠ .idle ∧ s.frameAvailable = false := by
      rcases hl with hl | hl | hl | ⟨hl, ha⟩ <;> simp [State.frameAvailable, *]
    exact exec_pollFrame_nothing hp hc ha.1 ha.2

end Sys2Proof.Machine
end

section
/-!
SUPPORT. How each operation moves `linkState` (R86, R87), and the code byte that names the operation in a word on the host port (R49).
This settles O48.
-/

namespace Sys2Proof

/-- A word on the host port begins with the code of the instruction it decodes to (R49). -/
theorem decode_host_head? {w rest : List Byte} {i : Instr} (h : decode .host w = .ok i rest) :
    w.head? = (encode i).head? := by
  simp only [decode, decodeHost] at h
  split at h
  · cases h
  next op operands =>
    have hcode : ∀ {c : Byte}, op.toNat = c.toNat → some op = some c := fun hop => congrArg some (BitVec.eq_of_toNat_eq hop)
    split at h
    case h_1 hop =>
      unfold decodeConstruct at h
      split at h <;> cases h
      exact hcode hop
    case h_4 hop =>
      unfold decodeWriteFrame at h
      split at h
      · split at h <;> cases h
        exact hcode hop
      · cases h
    case h_9 => cases h
    all_goals
      cases h
      exact hcode ‹_›

/-- The code byte, taken off the word (R49). -/
theorem decode_host_eq_cons {w rest : List Byte} {i : Instr} {c : Byte} (h : decode .host w = .ok i rest)
    (hc : (encode i).head? = some c) : ∃ operands, w = c :: operands :=
  List.head?_eq_some_iff.1 ((decode_host_head? h).trans hc)

end Sys2Proof

namespace Sys2Proof.Machine

/-- The step fetched as `f` that ends in `t` leaves `linkState`, or moves it as R87 lists. -/
abbrev Fetched.LinkMove (f : Fetched) (t : State) : Prop :=
  t.linkState = f.state.linkState ∨ LinkChange f f.state.linkState t.linkState

section
variable {s t : State}

/-- The byte that finds `Listening` cannot seal the frame, since no frame and no buffer is shorter than 4 bytes (R6, R72). -/
theorem State.Inv.exec_irq_listening (hs : s.Inv) (hl : s.linkState = .listening) : exec .irq s = .next s.takeByte := by
  have hmin : 4 ≤ s.params.maxPacket := hs.params.1
  obtain ⟨hc, -⟩ := hs.listening hl
  have hc : s.rxCursor.toNat = 0 := congrArg BitVec.toNat hc
  exact exec_irq_takes hs.params (.inl hl) (by omega) (by omega)

theorem execIrq_linkMove (hs : s.Inv) (h : execIrq s = .next t) : Fetched.LinkMove (.word .irq [1] s) t := by
  rcases execIrq_next h with ⟨-, rfl⟩ | ⟨hl | hl, hstep⟩ | ⟨-, -, rfl⟩ | ⟨hl, -, rfl⟩
  · exact .inl rfl
  · obtain rfl := Host.Outcome.next.inj ((hs.exec_irq_listening hl).symm.trans h)
    exact .inr (hl ▸ .firstByte s)
  · obtain ⟨-, ⟨-, rfl⟩ | ⟨-, rfl⟩⟩ := receiveStep_cases hstep
    · exact .inl hl.symm
    · exact .inr (hl ▸ .sealed s)
  · exact .inl rfl
  · exact .inr (hl ▸ .sent s)

section
variable {w rest : List Byte} {i : Instr}

/-- The operations with the codes below 3 may leave for `Idle`, from every link state. -/
theorem linkMove_to_idle {c : Byte} (hd : decode .host w = .ok i rest) (hc : (encode i).head? = some c) (hlt : c.toNat < 3)
    (ht : t.linkState = .idle) : Fetched.LinkMove (.word .host w s) t := by
  obtain ⟨operands, rfl⟩ := decode_host_eq_cons hd hc
  exact .inr (ht ▸ .toIdle c operands s _ hlt)

theorem execConstruct_linkMove {b : Band} {g : Byte} {n : NodeId} (hd : decode .host w = .ok (.construct b g n) rest)
    (h : execConstruct b g n s = .next t) : Fetched.LinkMove (.word .host w s) t := by
  have hrun := exec_construct_of_free (State.asHost_next.1 h).1 b g n
  obtain rfl := Host.Outcome.next.inj (hrun.symm.trans h)
  exact linkMove_to_idle hd rfl (by decide) rfl

theorem execBeginOp_linkMove (hd : decode .host w = .ok .beginOp rest) (h : execBeginOp s = .next t) :
    Fetched.LinkMove (.word .host w s) t :=
  linkMove_to_idle hd rfl (by decide) (execBeginOp_next h ▸ rfl)

theorem execCanTransmit_linkMove (hd : decode .host w = .ok .canTransmit rest) (h : execCanTransmit s = .next t) :
    Fetched.LinkMove (.word .host w s) t := by
  rcases execCanTransmit_next h with rfl | rfl
  · exact .inl rfl
  · exact linkMove_to_idle hd rfl (by decide) rfl

theorem execPollFrame_linkMove (hd : decode .host w = .ok .pollFrame rest) (h : execPollFrame s = .next t) :
    Fetched.LinkMove (.word .host w s) t := by
  obtain ⟨operands, rfl⟩ := decode_host_eq_cons hd rfl
  obtain ⟨-, -, ⟨hl, rfl⟩ | ⟨hl, -, rfl⟩ | ⟨-, -, rfl⟩⟩ := execPollFrame_next h
  · exact .inr (.listen operands s _ (.inl hl))
  · exact .inr (s.consumeFrame_result.1 ▸ .listen operands s _ (.inr hl))
  · exact .inl rfl

/-- How a fetched word moves `linkState`: the exchanges and the bytes on the wire leave it. -/
theorem exec_linkMove {p : Port} (hs : s.Inv) (hw : p = .irq → w = [1]) (hd : decode p w = .ok i rest)
    (h : exec i s = .next t) : Fetched.LinkMove (.word p w s) t := by
  obtain rfl := decode_port hd
  rcases exec_next h with ⟨b, g, n, rfl, hx⟩ | ⟨rfl, hx⟩ | ⟨rfl, hx⟩ | ⟨d, a, l, rfl, -, -, rfl⟩ | ⟨rfl, hx⟩ | ⟨rfl, hx⟩ |
    ⟨-, r, ht, -⟩ | ⟨-, ht⟩
  · exact execConstruct_linkMove hd hx
  · exact execBeginOp_linkMove hd hx
  · exact execCanTransmit_linkMove hd hx
  · exact .inl rfl
  · exact execPollFrame_linkMove hd hx
  · obtain rfl := hw rfl
    exact execIrq_linkMove hs hx
  · exact .inl (ht ▸ rfl)
  · exact .inl (ht ▸ rfl)

end

/-- Of the steps of a `WRITE_FRAME` in progress only arming on a clear channel moves `linkState` (R84). -/
theorem hostProceed_linkMove (h : hostProceed s = .next t) : Fetched.LinkMove (.proceed s) t := by
  rcases hostProceed_next h with rfl | ⟨d, a, p, -, -, rfl⟩ | ⟨d, a, p, -, rfl⟩
  · exact .inl rfl
  · exact .inl rfl
  · cases hc : s.carrierReply with
    | true => exact .inl (armStep_busy hc d a p ▸ rfl)
    | false => exact .inr (armStep_clear hc d a p ▸ .armed s _)

theorem hostTimeout_linkState (s : State) : (hostTimeout s).linkState = s.linkState := by
  unfold hostTimeout
  split
  · split <;> rfl
  all_goals rfl

theorem step_linkMove (hs : s.Inv) (h : step s = .next t) : (fetch s).LinkMove t := by
  rcases step_next h with ⟨p, w, s', i, rest, hf, hd, hx⟩ | ⟨s', hf, hx⟩ | ⟨s', hf, rfl⟩ | ⟨s', hf, rfl⟩ | ⟨s', hf, rfl⟩
  · obtain ⟨-, -, hw⟩ := fetch_word hf
    have hs' : (fetch s).state.Inv := hs.fetch
    rw [hf] at hs' ⊢
    exact exec_linkMove hs' hw hd hx
  · exact hf ▸ hostProceed_linkMove hx
  · exact hf ▸ .inl (hostTimeout_linkState s')
  · exact hf ▸ .inr (.resetInput s' _)
  · exact hf ▸ .inl rfl

end

/-- Settles O48: the fetch leaves `linkState`, and the step moves it as `step_linkMove` says. -/
theorem linkStateMovesOnlyAsListed : Obligations.LinkStateMovesOnlyAsListed := by
  intro s t hs h
  have hmove := step_linkMove hs h
  have hfetch : (fetch s).state.linkState = s.linkState := by
    obtain ⟨e, he⟩ := fetch_state s
    rw [he]
  rwa [Fetched.LinkMove, hfetch] at hmove

end Sys2Proof.Machine
end

section
/-!
SUPPORT. The discarded frame with its class (R95, R96), and what the steps add to the request trace, the labels and the results: a
`SLEEP`, a `FrameTruncationOverflow` or a `StaleReceptionStall` only on its ground (R97, R98, R104). This settles O24, O25, O51 and O52.
-/

namespace Sys2Proof.Machine

/-! ## The discarded frame -/

/-- A discarded frame leaves the result `None`, the label of its class and a fresh reception (R79, R85). -/
theorem exec_pollFrame_drops {s : State} (hp : s.hostPhase = .none) (hc : s.constructed = true)
    (hl : s.linkState = .receiveComplete) (ha : s.rxAvailable = true) (hd : (s.addressed && s.rxCrcValid) = false) :
    ∃ t, exec .pollFrame s = .next t ∧ t.returns = s.returns ++ [.polled none] ∧ t.raised = s.raised ++ [s.discardClass] ∧
      t.linkState = .listening ∧ t.FreshReception ∧ t.trace = s.trace ++ [.rxOn] :=
  ⟨_, exec_pollFrame_discards hp hc hl ha hd, rfl, rfl, rfl, ⟨rfl, rfl, rfl, rfl, rfl⟩, rfl⟩

/-- Settles O24: the address filter is looked at first, so the class does not depend on the CRC. -/
theorem misaddressedFrameIsDropped : Obligations.MisaddressedFrameIsDropped := by
  intro s hp hc hl ha hnode hbroadcast
  have hother : ¬ (s.rxHeader.destination = s.nodeId ∨ s.rxHeader.destination = 0) := not_or.2 ⟨hnode, hbroadcast⟩
  have hd : s.addressed = false := by rwa [← Bool.not_eq_true, State.addressed_iff]
  have hclass : s.discardClass = .misaddressedFrame := by rw [State.discardClass_eq, if_pos hother]
  exact hclass ▸ exec_pollFrame_drops hp hc hl ha (by rw [hd, Bool.false_and])

/-- Settles O25: past the address filter the class is the capacity's to tell. -/
theorem damagedFrameIsDropped : Obligations.DamagedFrameIsDropped := by
  intro s hp hc hl ha hd hv
  have hclass : s.discardClass =
      if s.rxLen.toNat + 4 > s.params.maxPacket then .frameTruncationOverflow else .crcMismatch := by
    rw [State.discardClass_eq]
    exact if_neg (not_not_intro hd)
  obtain ⟨t, hrun, hreturns, hraised, hlisten, hfresh, htrace⟩ :=
    exec_pollFrame_drops hp hc hl ha (by rw [hv, Bool.and_false])
  rw [hclass] at hraised
  exact ⟨t, hrun, hreturns, hlisten, hfresh, htrace, fun hfits => by rw [hraised, if_neg (Nat.not_lt.2 hfits)],
    fun hcut => by rw [hraised, if_pos hcut]⟩

/-! ## What a step logs -/

/-- What the histories of `t` hold beyond those of `s` has its ground: a `SLEEP` in the trace is there only if `sleeps` (R104), the
label `FrameTruncationOverflow` only for a length beyond the capacity (R97), and `StaleReceptionStall` only where the wait may
give up (R98). -/
structure State.LogsWithGround (sleeps : Prop) (s t : State) : Prop where
  sleep : .sleep ∈ t.trace → .sleep ∈ s.trace ∨ sleeps
  overflow : .frameTruncationOverflow ∈ t.raised →
    .frameTruncationOverflow ∈ s.raised ∨ s.params.maxPacket < s.rxLen.toNat + 4
  stallLabel : .staleReceptionStall ∈ t.raised → .staleReceptionStall ∈ s.raised ∨ s.params.spinTimeoutEnable = true
  stallResult : .wStatus .staleReceptionStall ∈ t.returns →
    .wStatus .staleReceptionStall ∈ s.returns ∨ s.params.spinTimeoutEnable = true

/-- An entry found after one more has been appended was there before, or has the ground of the one appended. -/
theorem mem_append_singleton_ground {α : Type} {a b : α} {l : List α} {ground : Prop} (h : b = a → ground)
    (hmem : a ∈ l ++ [b]) : a ∈ l ∨ ground :=
  (List.mem_append.1 hmem).imp_right fun hlast => h (List.mem_singleton.1 hlast).symm

section
variable {sleeps : Prop} {s t : State}

/-- A step that logs nothing needs no ground. -/
theorem State.LogsWithGround.of_same (htrace : t.trace = s.trace) (hreturns : t.returns = s.returns)
    (hraised : t.raised = s.raised) : s.LogsWithGround sleeps t :=
  ⟨htrace ▸ Or.inl, hraised ▸ Or.inl, hraised ▸ Or.inl, hreturns ▸ Or.inl⟩

/-- An event labels nothing and returns nothing, and no arm of it issues a `SLEEP` (R65 to R77). -/
theorem execIrq_logs (h : execIrq s = .next t) : s.LogsWithGround sleeps t := by
  rcases execIrq_next h with ⟨-, rfl⟩ | ⟨-, h⟩ | ⟨-, -, rfl⟩ | ⟨-, -, rfl⟩
  · exact .of_same rfl rfl rfl
  · obtain ⟨-, ⟨-, rfl⟩ | ⟨-, rfl⟩⟩ := receiveStep_cases h
    all_goals constructor <;> simp +contextual
  all_goals constructor <;> simp +contextual

/-- A discarded frame is `FrameTruncationOverflow` only for a length beyond the capacity (R97), and never a stall. -/
theorem State.discardClass_grounds (s : State) :
    (s.discardClass = .frameTruncationOverflow → s.params.maxPacket < s.rxLen.toNat + 4) ∧
      s.discardClass ≠ .staleReceptionStall := by
  unfold State.discardClass
  split
  · exact ⟨nofun, nofun⟩
  · split
    next hcut => exact ⟨fun _ => hcut, nofun⟩
    · exact ⟨nofun, nofun⟩

theorem State.consumeFrame_logs (s : State) : s.LogsWithGround sleeps s.consumeFrame := by
  obtain ⟨hoverflow, hstall⟩ := s.discardClass_grounds
  unfold State.consumeFrame
  split
  · constructor <;> simp +contextual
  · exact ⟨mem_append_singleton_ground nofun, mem_append_singleton_ground hoverflow,
      mem_append_singleton_ground fun hclass => absurd hclass hstall, mem_append_singleton_ground nofun⟩

theorem execPollFrame_logs (h : execPollFrame s = .next t) : s.LogsWithGround sleeps t := by
  obtain ⟨-, -, ⟨-, rfl⟩ | ⟨-, -, rfl⟩ | ⟨-, -, rfl⟩⟩ := execPollFrame_next h
  · constructor <;> simp +contextual
  · exact s.consumeFrame_logs
  · constructor <;> simp +contextual

/-- Of the instructions only the exchange `T(SLEEP)` issues a `SLEEP` (R104). -/
theorem exec_logs {i : Instr} (hsleep : i = .tSleep → sleeps) (h : exec i s = .next t) : s.LogsWithGround sleeps t := by
  rcases exec_next h with ⟨b, g, n, -, hx⟩ | ⟨-, hx⟩ | ⟨-, hx⟩ | ⟨d, a, p, -, -, -, rfl⟩ | ⟨-, hx⟩ | ⟨-, hx⟩ |
    ⟨-, r, ht, hr⟩ | ⟨-, ht⟩
  · obtain ⟨-, hx⟩ := State.asHost_next.1 hx
    cases hx
    constructor <;> simp +contextual
  · rw [execBeginOp_next hx]
    constructor <;> simp +contextual
  · rcases execCanTransmit_next hx with rfl | rfl
    all_goals constructor <;> simp +contextual
  · exact .of_same rfl rfl rfl
  · exact execPollFrame_logs hx
  · exact execIrq_logs hx
  · rw [ht]
    exact ⟨mem_append_singleton_ground fun hlast => hsleep (hr.1 hlast), .inl, .inl, .inl⟩
  · rw [ht]
    exact .of_same rfl rfl rfl

/-- The steps of a `WRITE_FRAME` in progress label and return what they find on the channel (R83, R84). -/
theorem hostProceed_logs (h : hostProceed s = .next t) : s.LogsWithGround sleeps t := by
  rcases hostProceed_next h with rfl | ⟨d, a, p, -, -, rfl⟩ | ⟨d, a, p, -, rfl⟩
  · exact .of_same rfl rfl rfl
  · exact .of_same rfl rfl rfl
  · unfold armStep
    split
    all_goals constructor <;> simp +contextual

/-- Only a wait that may give up does (R83, R98). -/
theorem hostTimeout_logs (s : State) : s.LogsWithGround sleeps (hostTimeout s) := by
  unfold hostTimeout
  split
  · split
    next hgives =>
      obtain ⟨henabled, -⟩ := Bool.and_eq_true_iff.1 hgives
      exact ⟨.inl, by simp +contextual, fun _ => .inr henabled, fun _ => .inr henabled⟩
    · exact .of_same rfl rfl rfl
  all_goals exact .of_same rfl rfl rfl

/-- Whatever a step is, what it logs has its ground, and a `SLEEP` only the exchange presented by itself (R104; log 12). -/
theorem step_logs (h : step s = .next t) : s.LogsWithGround (∃ w s', fetch s = .word .treq w s') t := by
  obtain ⟨e, he⟩ := fetch_state s
  suffices hfetched : (fetch s).state.LogsWithGround (∃ w s', fetch s = .word .treq w s') t by
    rw [he] at hfetched
    exact ⟨hfetched.sleep, hfetched.overflow, hfetched.stallLabel, hfetched.stallResult⟩
  rcases step_next h with ⟨p, w, s', i, rest, hf, hd, hx⟩ | ⟨s', hf, hx⟩ | ⟨s', hf, rfl⟩ | ⟨s', hf, rfl⟩ | ⟨s', hf, rfl⟩
  all_goals rw [hf]
  · refine exec_logs (fun hi => ?_) hx
    obtain rfl : Port.treq = p := (congrArg Instr.port hi).symm.trans (decode_port hd)
    exact ⟨w, s', rfl⟩
  · exact hostProceed_logs hx
  · exact hostTimeout_logs s'
  · exact ⟨nofun, nofun, nofun, nofun⟩
  · exact .of_same rfl rfl rfl

end

/-- Settles O51: without an exchange by itself there is no ground for a `SLEEP`. -/
theorem sleepIsNeverIssued : Obligations.SleepIsNeverIssued := by
  intro s t hnext h hfree hsleep
  rcases (step_logs h).sleep hsleep with hold | ⟨w, s', hf⟩
  · exact hfree hold
  · exact hnext.fetch_ne hf

/-- Settles O52: a 6-bit length declares at most 67 bytes, and a wait that may not give up does not. -/
theorem unreachableErrorClasses : Obligations.UnreachableErrorClasses := by
  intro s t h
  obtain ⟨-, hoverflow, hlabel, hresult⟩ := step_logs h
  refine ⟨fun hcapacity hfree hmem => ?_, fun hdisabled => ?_⟩
  · have hshort := s.rxLen.isLt
    rcases hoverflow hmem with hold | hcut
    · exact hfree hold
    · omega
  · have hno : s.params.spinTimeoutEnable ≠ true := by simp [hdisabled]
    exact ⟨fun hfree hmem => (hlabel hmem).elim hfree hno, fun hfree hmem => (hresult hmem).elim hfree hno⟩

end Sys2Proof.Machine
end

section
/-!
SUPPORT. The reset input and the block that waits (R105), the refusals before `CONSTRUCT` (R108), what `CAN_TRANSMIT` does to a
reception (R111, R112) and the named premises (R120). This settles O1, O4, O18, O56, O57 and O58.
-/

namespace Sys2Proof.Machine

/-! ## The reset input, and nothing to do -/

/-- The turn of the reset input is a hardware reset, whatever else is going on (R105). -/
theorem step_of_reset {s : State} {ts : List Turn} (h : s.env.turns = .reset :: ts) :
    step s = .next (hardwareReset (s.withTurns ts)) := by
  simp only [step, fetch_of_turn h, fetchTurn]

/-- A fetch that finds no agent with a step to take leaves its state. -/
theorem step_of_fetch_nothing {s s' : State} (h : fetch s = .nothing s') : step s = .next s' := by
  simp only [step, h]

/-- With no turn listed no agent has a step to take (R105; log 1). -/
theorem fetch_of_no_turn {s : State} (h : s.env.turns = []) : fetch s = .nothing s := by
  simp only [fetch, h]

/-- A host with no operation in progress and no call to make has no step to take (log 1). -/
theorem fetchHost_of_no_call {s : State} (hp : s.hostPhase = .none) (hc : s.env.hostCalls = []) : fetchHost s = .nothing s := by
  simp only [fetchHost, hp, hc]

/-- Settles O1: the step is `step_of_reset`, and the values are those of the column in R26. -/
theorem hardwareResetValues : Obligations.HardwareResetValues := by
  intro s ts ht
  exact ⟨step_of_reset ht, rfl, rfl, rfl, rfl, rfl, rfl, rfl, rfl, rfl, rfl⟩

/-- Settles O4: in both cases the fetch finds nothing to do, in the second after taking the host's turn. -/
theorem nothingToDoLeavesTheState : Obligations.NothingToDoLeavesTheState := by
  refine ⟨fun s ht => ?noTurn, fun s ts ht hp hc => ?noCall⟩
  case noTurn => exact step_of_fetch_nothing (fetch_of_no_turn ht)
  case noCall =>
    have hidle : fetchHost (s.withTurns ts) = .nothing (s.withTurns ts) := fetchHost_of_no_call hp hc
    exact step_of_fetch_nothing ((fetch_of_turn ht).trans hidle)

/-! ## Before `CONSTRUCT` -/

/-- Settles O18: each of the three asks for the identity registers as soon as it may start (`State.withIdentity`); for `BEGIN`
this is the second half of O17. -/
theorem refusedBeforeConstruct : Obligations.RefusedBeforeConstruct := by
  intro s d a p hc hp
  refine ⟨(beginConfiguresAndIdles s hp).2 hc, ?writeFrame, ?pollFrame⟩
  case writeFrame => simp only [exec, execWriteFrame, State.asHost_none hp, State.withIdentity_unset hc]
  case pollFrame => simp only [exec, execPollFrame, State.asHost_none hp, State.withIdentity_unset hc]

/-! ## `CAN_TRANSMIT` between a reception and the next poll -/

/-- Settles O56: the clear path (O19) leaves `rxAvailable` and `rxBuf`, but it ends in `Idle`, where a poll arms listening without
looking at them. -/
theorem unreadFrameIsLost : Obligations.UnreadFrameIsLost := by
  intro s hp hc _ hclear
  have hreturns : s.returns ++ [.clear true] ++ [.polled none] = s.returns ++ [.clear true, .polled none] :=
    List.append_assoc _ _ _
  exact ⟨_, _, (canTransmitBusyAndClear s hp).2 hclear, rfl, exec_pollFrame_idle hp hc rfl, hreturns, rfl, rfl, rfl⟩

/-- Settles O57: the clear path (O19) writes no receive bookkeeping, an event in `Idle` does nothing (O28), and the poll there
arms afresh. -/
theorem abortedReceptionStartsAfresh : Obligations.AbortedReceptionStartsAfresh := by
  intro s hp hc _ hclear
  exact ⟨_, _, (canTransmitBusyAndClear s hp).2 hclear, rfl, rfl, rfl, rfl, eventIsNoOpWhenInactive _ (.inl rfl),
    exec_pollFrame_idle hp hc rfl, rfl, rfl, rfl, rfl, rfl, rfl⟩

/-! ## The named premises -/

/-- Settles O58: `CONSTRUCT` is O14's, `BEGIN` O17's, and the poll finds `Idle`. -/
theorem namedPremisesFollow : Obligations.NamedPremisesFollow := by
  intro b g n hb hn
  refine ⟨?construct, ?begin, ?poll, ?afterReset, ?constructed, ?begun, ?armed⟩
  case construct => exact constructLoadsIdentity State.afterReset b g n rfl hb hn
  case begin => exact (beginConfiguresAndIdles (State.constructedWith b g n) rfl).1 rfl
  case poll => exact exec_pollFrame_idle (s := State.begun b g n) rfl rfl rfl
  case afterReset => exact ⟨rfl, .inl rfl, rfl⟩
  case constructed => exact ⟨rfl, .inl rfl, rfl⟩
  case begun => exact ⟨rfl, .inl rfl, rfl⟩
  case armed => exact ⟨rfl, .inr rfl, rfl⟩

end Sys2Proof.Machine
end
